-- ==== Sys2Proof/Word.lean ====
section
/-! DEFINITION. The words of the PPU core: bytes, CPU addresses, operation words and colours
(spec/00_scope.md R10, R11, R15; spec/30_encoding.md R90). -/

namespace Sys2Proof

/-- A `u8` (R10). -/
abbrev Byte := BitVec 8

/-- A `u16` CPU address, and the width of `vramAddr` (R10, R28). -/
abbrev Addr := BitVec 16

/-- An operation word: 26 bits, bit 25 the most significant (R90). -/
abbrev OpWord := BitVec 26

/-- One entry of the master palette: a triple of bytes with no alpha (R9, R171). -/
structure Rgb where
  r : Byte
  g : Byte
  b : Byte
deriving DecidableEq, Repr, Inhabited

/-- A colour: four bytes, RGBA8888; alpha 0 is transparent and 0xFF opaque (R15). -/
structure Colour where
  r : Byte
  g : Byte
  b : Byte
  a : Byte
deriving DecidableEq, Repr, Inhabited

/-- The fully opaque colour of a palette entry (R171: every master colour has alpha 0xFF). -/
def Rgb.toColour (c : Rgb) : Colour := ⟨c.r, c.g, c.b, 0xFF⟩

end Sys2Proof
end

