-- ==== Sys2Proof/Syntax.lean ====
section
/-! DEFINITION. The operations of the PPU core: one constructor per row of spec/opcode_table.json
(spec/30_encoding.md R102). A bus operation whose row covers several CPU addresses carries the full 16-bit address
the caller gave, before `addrMap` (R92); a row of one address carries none. -/

namespace Sys2Proof

/-- A controller port, 0 or 1 (spec/10_state.md R37). -/
abbrev Port := Fin 2

/-- One operation of the block (R2, R102). -/
inductive Instr where
  -- BUS_READ rows
  | readRamLow (addr : Addr)
  | readControl (addr : Addr)
  | readMask (addr : Addr)
  | readStatus (addr : Addr)
  | readOamAddr (addr : Addr)
  | readOamData (addr : Addr)
  | readScroll (addr : Addr)
  | readVramAddr (addr : Addr)
  | readVramData (addr : Addr)
  | readApu4000 (addr : Addr)
  | readApu4010 (addr : Addr)
  | read4014
  | readApu4015
  | readJoy1
  | readJoy2
  | readRamHigh (addr : Addr)
  -- BUS_WRITE rows
  | writeRamLow (addr : Addr) (data : Byte)
  | writeControl (addr : Addr) (data : Byte)
  | writeMask (addr : Addr) (data : Byte)
  | writeStatus (addr : Addr) (data : Byte)
  | writeOamAddr (addr : Addr) (data : Byte)
  | writeOamData (addr : Addr) (data : Byte)
  | writeScroll (addr : Addr) (data : Byte)
  | writeVramAddr (addr : Addr) (data : Byte)
  | writeVramData (addr : Addr) (data : Byte)
  | writeApu4000 (addr : Addr) (data : Byte)
  | writeApu4010 (addr : Addr) (data : Byte)
  | writeOamDma (page : Byte)
  | writeApu4015 (data : Byte)
  | writeJoyStrobe (data : Byte)
  | writeApu4017 (data : Byte)
  | writeRamHigh (addr : Addr) (data : Byte)
  -- HOST rows
  | init
  | composeFrame
  | sampleInput (port : Port) (value : Byte)
deriving DecidableEq, Repr

end Sys2Proof
end

