-- ==== Sys2Proof/WellFormed.lean ====
section
/-! DEFINITION. Which operations the encoding can name: the address operand lies in its row's "CPU addresses" set
(spec/30_encoding.md R102). -/

namespace Sys2Proof

/-- 0x0000-0x1FFF: internal RAM and its mirrors (R66, rows *_RAM_LOW). -/
def inRamLow (a : Addr) : Bool := a.toNat < 0x2000

/-- The addresses of PPU register slot k: 0x2000+k, 0x2008+k, ... below 0x4000 (R66, the mapped PPU rows). -/
def inSlot (k : Nat) (a : Addr) : Bool :=
  decide (0x2000 ≤ a.toNat) && decide (a.toNat < 0x4000) && decide (a.toNat % 8 = k)

/-- 0x4000-0x400F (rows *_APU_4000). -/
def inApu4000 (a : Addr) : Bool := decide (0x4000 ≤ a.toNat) && decide (a.toNat < 0x4010)

/-- 0x4010-0x4013 (rows *_APU_4010). -/
def inApu4010 (a : Addr) : Bool := decide (0x4010 ≤ a.toNat) && decide (a.toNat < 0x4014)

/-- 0x4018-0xFFFF (the fallback rows *_RAM_HIGH). -/
def inRamHigh (a : Addr) : Bool := 0x4018 ≤ a.toNat

/-- The operands are ones the row's encoding admits. -/
def Instr.wellFormed : Instr → Bool
  | .readRamLow a => inRamLow a
  | .readControl a => inSlot 0 a
  | .readMask a => inSlot 1 a
  | .readStatus a => inSlot 2 a
  | .readOamAddr a => inSlot 3 a
  | .readOamData a => inSlot 4 a
  | .readScroll a => inSlot 5 a
  | .readVramAddr a => inSlot 6 a
  | .readVramData a => inSlot 7 a
  | .readApu4000 a => inApu4000 a
  | .readApu4010 a => inApu4010 a
  | .read4014 => true
  | .readApu4015 => true
  | .readJoy1 => true
  | .readJoy2 => true
  | .readRamHigh a => inRamHigh a
  | .writeRamLow a _ => inRamLow a
  | .writeControl a _ => inSlot 0 a
  | .writeMask a _ => inSlot 1 a
  | .writeStatus a _ => inSlot 2 a
  | .writeOamAddr a _ => inSlot 3 a
  | .writeOamData a _ => inSlot 4 a
  | .writeScroll a _ => inSlot 5 a
  | .writeVramAddr a _ => inSlot 6 a
  | .writeVramData a _ => inSlot 7 a
  | .writeApu4000 a _ => inApu4000 a
  | .writeApu4010 a _ => inApu4010 a
  | .writeOamDma _ => true
  | .writeApu4015 _ => true
  | .writeJoyStrobe _ => true
  | .writeApu4017 _ => true
  | .writeRamHigh a _ => inRamHigh a
  | .init => true
  | .composeFrame => true
  | .sampleInput _ _ => true

end Sys2Proof
end

