-- ==== Sys2Proof/Decode.lean ====
section
/-! DEFINITION. Decoding a 26-bit operation word by the table of spec/30_encoding.md R102, and the encoder. -/

namespace Sys2Proof

/-- `addr = w[23:8]` (R92). -/
def wordAddr (w : OpWord) : Addr := w.extractLsb' 8 16

/-- `data = w[7:0]`, and SAMPLE_INPUT's `value` (R92, R94). -/
def wordData (w : OpWord) : Byte := w.extractLsb' 0 8

/-- `kind = w[25:24]` (R91). -/
def wordKind (w : OpWord) : BitVec 2 := w.extractLsb' 24 2

/-- `hostop = w[23:16]` (R94). -/
def wordHostOp (w : OpWord) : Byte := w.extractLsb' 16 8

/-- SAMPLE_INPUT's `port = w[8]` (R94). -/
def wordPort (w : OpWord) : Port := if w.getLsbD 8 then 1 else 0

/-- One row of the operation table: the row is selected when `(w & mask) = pattern` (R96). -/
structure Row where
  mnemonic : String
  mask : OpWord
  pattern : OpWord
  build : OpWord → Instr

/-- `(w & mask) = match` (R96). -/
def Row.selects (r : Row) (w : OpWord) : Bool := w &&& r.mask == r.pattern

/-- The BUS_READ rows, priorities 0 to 15 (R102). -/
def readRows : List Row := [
  ⟨"READ_RAM_LOW", 0x3E000FF, 0x0000000, fun w => .readRamLow (wordAddr w)⟩,
  ⟨"READ_CONTROL", 0x3E007FF, 0x0200000, fun w => .readControl (wordAddr w)⟩,
  ⟨"READ_MASK", 0x3E007FF, 0x0200100, fun w => .readMask (wordAddr w)⟩,
  ⟨"READ_STATUS", 0x3E007FF, 0x0200200, fun w => .readStatus (wordAddr w)⟩,
  ⟨"READ_OAMADDR", 0x3E007FF, 0x0200300, fun w => .readOamAddr (wordAddr w)⟩,
  ⟨"READ_OAMDATA", 0x3E007FF, 0x0200400, fun w => .readOamData (wordAddr w)⟩,
  ⟨"READ_SCROLL", 0x3E007FF, 0x0200500, fun w => .readScroll (wordAddr w)⟩,
  ⟨"READ_VRAMADDR", 0x3E007FF, 0x0200600, fun w => .readVramAddr (wordAddr w)⟩,
  ⟨"READ_VRAMDATA", 0x3E007FF, 0x0200700, fun w => .readVramData (wordAddr w)⟩,
  ⟨"READ_APU_4000", 0x3FFF0FF, 0x0400000, fun w => .readApu4000 (wordAddr w)⟩,
  ⟨"READ_APU_4010", 0x3FFFCFF, 0x0401000, fun w => .readApu4010 (wordAddr w)⟩,
  ⟨"READ_4014", 0x3FFFFFF, 0x0401400, fun _ => .read4014⟩,
  ⟨"READ_APU_4015", 0x3FFFFFF, 0x0401500, fun _ => .readApu4015⟩,
  ⟨"READ_JOY1", 0x3FFFFFF, 0x0401600, fun _ => .readJoy1⟩,
  ⟨"READ_JOY2", 0x3FFFFFF, 0x0401700, fun _ => .readJoy2⟩,
  ⟨"READ_RAM_HIGH", 0x30000FF, 0x0000000, fun w => .readRamHigh (wordAddr w)⟩]

/-- The BUS_WRITE rows, priorities 16 to 31 (R102). -/
def writeRows : List Row := [
  ⟨"WRITE_RAM_LOW", 0x3E00000, 0x1000000, fun w => .writeRamLow (wordAddr w) (wordData w)⟩,
  ⟨"WRITE_CONTROL", 0x3E00700, 0x1200000, fun w => .writeControl (wordAddr w) (wordData w)⟩,
  ⟨"WRITE_MASK", 0x3E00700, 0x1200100, fun w => .writeMask (wordAddr w) (wordData w)⟩,
  ⟨"WRITE_STATUS", 0x3E00700, 0x1200200, fun w => .writeStatus (wordAddr w) (wordData w)⟩,
  ⟨"WRITE_OAMADDR", 0x3E00700, 0x1200300, fun w => .writeOamAddr (wordAddr w) (wordData w)⟩,
  ⟨"WRITE_OAMDATA", 0x3E00700, 0x1200400, fun w => .writeOamData (wordAddr w) (wordData w)⟩,
  ⟨"WRITE_SCROLL", 0x3E00700, 0x1200500, fun w => .writeScroll (wordAddr w) (wordData w)⟩,
  ⟨"WRITE_VRAMADDR", 0x3E00700, 0x1200600, fun w => .writeVramAddr (wordAddr w) (wordData w)⟩,
  ⟨"WRITE_VRAMDATA", 0x3E00700, 0x1200700, fun w => .writeVramData (wordAddr w) (wordData w)⟩,
  ⟨"WRITE_APU_4000", 0x3FFF000, 0x1400000, fun w => .writeApu4000 (wordAddr w) (wordData w)⟩,
  ⟨"WRITE_APU_4010", 0x3FFFC00, 0x1401000, fun w => .writeApu4010 (wordAddr w) (wordData w)⟩,
  ⟨"WRITE_OAMDMA", 0x3FFFF00, 0x1401400, fun w => .writeOamDma (wordData w)⟩,
  ⟨"WRITE_APU_4015", 0x3FFFF00, 0x1401500, fun w => .writeApu4015 (wordData w)⟩,
  ⟨"WRITE_JOYSTROBE", 0x3FFFF00, 0x1401600, fun w => .writeJoyStrobe (wordData w)⟩,
  ⟨"WRITE_APU_4017", 0x3FFFF00, 0x1401700, fun w => .writeApu4017 (wordData w)⟩,
  ⟨"WRITE_RAM_HIGH", 0x3000000, 0x1000000, fun w => .writeRamHigh (wordAddr w) (wordData w)⟩]

/-- The HOST rows, priorities 32 to 34 (R102). -/
def hostRows : List Row := [
  ⟨"INIT", 0x3FFFFFF, 0x2000000, fun _ => .init⟩,
  ⟨"COMPOSE_FRAME", 0x3FFFFFF, 0x2010000, fun _ => .composeFrame⟩,
  ⟨"SAMPLE_INPUT", 0x3FFFE00, 0x2020000, fun w => .sampleInput (wordPort w) (wordData w)⟩]

/-- The operation table in ascending priority (R102). -/
def opTable : List Row := readRows ++ writeRows ++ hostRows

/-- Why a word is refused (R99). -/
inductive DecodeError where
  /-- `kind = 3`. -/
  | reservedKind
  /-- `kind = 0` and `w[7:0]` is not zero (R93). -/
  | readDataNotZero
  /-- `kind = 2` and `hostop` is 3 or more (R95). -/
  | reservedHostOp
  /-- INIT or COMPOSE_FRAME with an operand that is not zero (R94). -/
  | operandNotZero
  /-- SAMPLE_INPUT with `w[15:9]` not zero (R94). -/
  | sampleReservedBits
deriving DecidableEq, Repr

/-- The reason for refusing a word no row selects (R99). -/
def rejectReason (w : OpWord) : DecodeError :=
  if wordKind w = 3 then .reservedKind
  else if wordKind w = 0 then .readDataNotZero
  else if 3 ≤ (wordHostOp w).toNat then .reservedHostOp
  else if wordHostOp w = 2 then .sampleReservedBits
  else .operandNotZero

/-- The first row in ascending priority that selects the word names the operation; no row, and the word is refused
(R96, R99). -/
def decode (w : OpWord) : Except DecodeError Instr :=
  match opTable.find? (fun r => r.selects w) with
  | some r => .ok (r.build w)
  | none => .error (rejectReason w)

/-- Read an operation from a number whose bits are the word's, bit 0 the least significant (R90): bits from `nbits`
up are 0, and a number of more than 26 bits is no operation word (log 11). -/
def decodeTableWord (nbits w : Nat) : Option Instr :=
  if w % 2 ^ nbits < 2 ^ 26 then (decode (BitVec.ofNat 26 (w % 2 ^ nbits))).toOption else none

/-- A BUS_READ word: kind 0, the address, zero (R90). -/
def busReadWord (addr : Addr) : OpWord := (0 : BitVec 2) ++ addr ++ (0 : Byte)

/-- A BUS_WRITE word: kind 1, the address, the data byte (R90). -/
def busWriteWord (addr : Addr) (data : Byte) : OpWord := (1 : BitVec 2) ++ addr ++ data

/-- A HOST word: kind 2, the host operation code, a 16-bit operand (R90, R94). -/
def hostWord (hostop : Byte) (operand : BitVec 16) : OpWord := (2 : BitVec 2) ++ hostop ++ operand

/-- The operation word of an instruction (R90, R92, R94, R95). -/
def encode : Instr → OpWord
  | .readRamLow a => busReadWord a
  | .readControl a => busReadWord a
  | .readMask a => busReadWord a
  | .readStatus a => busReadWord a
  | .readOamAddr a => busReadWord a
  | .readOamData a => busReadWord a
  | .readScroll a => busReadWord a
  | .readVramAddr a => busReadWord a
  | .readVramData a => busReadWord a
  | .readApu4000 a => busReadWord a
  | .readApu4010 a => busReadWord a
  | .read4014 => busReadWord 0x4014
  | .readApu4015 => busReadWord 0x4015
  | .readJoy1 => busReadWord 0x4016
  | .readJoy2 => busReadWord 0x4017
  | .readRamHigh a => busReadWord a
  | .writeRamLow a d => busWriteWord a d
  | .writeControl a d => busWriteWord a d
  | .writeMask a d => busWriteWord a d
  | .writeStatus a d => busWriteWord a d
  | .writeOamAddr a d => busWriteWord a d
  | .writeOamData a d => busWriteWord a d
  | .writeScroll a d => busWriteWord a d
  | .writeVramAddr a d => busWriteWord a d
  | .writeVramData a d => busWriteWord a d
  | .writeApu4000 a d => busWriteWord a d
  | .writeApu4010 a d => busWriteWord a d
  | .writeOamDma d => busWriteWord 0x4014 d
  | .writeApu4015 d => busWriteWord 0x4015 d
  | .writeJoyStrobe d => busWriteWord 0x4016 d
  | .writeApu4017 d => busWriteWord 0x4017 d
  | .writeRamHigh a d => busWriteWord a d
  | .init => hostWord 0x00 0
  | .composeFrame => hostWord 0x01 0
  | .sampleInput p v => hostWord 0x02 ((BitVec.ofNat 8 p.val) ++ v)

end Sys2Proof
end

