-- ==== Sys2Proof/Config.lean ====
section
/-! DEFINITION. What an implementation fixes (the parameters of spec/00_scope.md R9, the sizes of R8) and the
free values (`draw()`, R14), which are constants with no body. -/

namespace Sys2Proof

/-- `P_PLANE_ORDER` (R9, R181): which bitplane gives bit 0 of a pixel index. -/
inductive PlaneOrder where
  | lowFirst   -- bytes 0-7 of a tile give pixel bit 0
  | highFirst  -- bytes 8-15 of a tile give pixel bit 0
deriving DecidableEq, Repr

/-- `P_COLUMN_ORDER` (R9, R182): which bit of a plane byte is unflipped column 0. -/
inductive ColumnOrder where
  | msbLeft
  | lsbLeft
deriving DecidableEq, Repr

/-- `P_BG_BANK` (R9, R201): where the background pattern bank comes from. -/
inductive BgBank where
  | controlBit
  | fixed0
  | fixed1
deriving DecidableEq, Repr

/-- `P_VRAM_INDEX` (R9, R61): what becomes of a `vramAddr` past the 16 KiB VideoMemory. -/
inductive VramIndexing where
  | mod16K
  | fault
deriving DecidableEq, Repr

/-- `P_DMA_SOURCE` (R9, R146): whether OAM DMA reads the store directly or through the bus. -/
inductive DmaSource where
  | raw
  | mapped
deriving DecidableEq, Repr

/-- `P_READ_4014` (R9, R159): what a read of 0x4014 returns. -/
inductive Read4014 where
  | zero
  | ram
deriving DecidableEq, Repr

/-- `P_STATUS_SOURCE` (R9, R152): whether a read of `status` returns the register or an unconstrained byte. -/
inductive StatusSource where
  | constant
  | draw
deriving DecidableEq, Repr

/-- `P_STROBE_RESET` (R9, R147, R252): what besides the shifting poll touches `currentBit`. -/
inductive StrobeReset where
  | none
  | onStrobedPoll
  | onLatchWrite
deriving DecidableEq, Repr

/-- The implementation parameters of R9, "The model takes each as an argument". A machine carries one such
record, which no operation changes, so that a claim about every state is a claim about every setting
(DESIGN CHOICE, log 1). The bit numbers are 0..7. -/
structure Params where
  masterPalette  : Vector Rgb 64
  planeOrder     : PlaneOrder
  columnOrder    : ColumnOrder
  ctrlNtxBit     : Fin 8
  ctrlNtyBit     : Fin 8
  ctrlSprBankBit : Fin 8
  ctrlBgBankBit  : Fin 8
  ctrlSprSizeBit : Fin 8
  bgBank         : BgBank
  vramIndex      : VramIndexing
  dmaSource      : DmaSource
  read4014       : Read4014
  statusSource   : StatusSource
  strobeReset    : StrobeReset
deriving DecidableEq, Repr

/-- "The five `P_CTRL_*` parameters must name distinct bits" (R9). -/
abbrev Params.wf (p : Params) : Prop :=
  [p.ctrlNtxBit, p.ctrlNtyBit, p.ctrlSprBankBit, p.ctrlBgBankBit, p.ctrlSprSizeBit].Nodup

/-- `P_MASTER_PALETTE`, which the spec leaves OPEN (R9, R171): an unknown triple for each index 0..63. Free: no
body, so no claim rests on a value of it (log 6). -/
opaque Config.masterPalette : Nat → Rgb

/-- The n-th unconstrained byte `draw()` of a run (R14, R152, R61). Free: no body (log 5). -/
opaque Config.drawByte : Nat → Byte

/-- The n-th unconstrained colour `draw()` of a run (R14, R215, R270). Free: no body (log 5). -/
opaque Config.drawColour : Nat → Colour

/-- Whether a frame pixel no blit writes keeps its colour instead (R215, R274). Free: no body (log 5, 10). -/
opaque Config.drawKeep : Nat → Bool

/-- Bytes of the CPU bus store (R8, R20). -/
abbrev Config.cpuMemSize : Nat := 0x10000
/-- Bytes of VideoMemory (R8, R20). -/
abbrev Config.vramSize : Nat := 0x4000
/-- Width of the composite surface (R8, R30). -/
abbrev Config.compositeWidth : Nat := 512
/-- Height of the composite surface (R8, R30). -/
abbrev Config.compositeHeight : Nat := 480
/-- Width of the frame buffer (R8, R29). -/
abbrev Config.frameWidth : Nat := 256
/-- Height of the frame buffer (R8, R29). -/
abbrev Config.frameHeight : Nat := 240

end Sys2Proof
end

