-- ==== Sys2Proof/Machine/Params.lean ====
section
/-! DEFINITION. The default values of the implementation parameters (spec/00_scope.md R9). -/

namespace Sys2Proof.Machine

/-- A vector given index by index. -/
def tabulate {α : Type} (n : Nat) (f : Nat → α) : Vector α n := ⟨⟨(List.range n).map f⟩, by simp⟩

/-- The default of every parameter (R9); the master palette has none and is the free constant of Config (log 1, 6). -/
def defaultParams : Params where
  masterPalette  := tabulate 64 Config.masterPalette
  planeOrder     := .lowFirst
  columnOrder    := .msbLeft
  ctrlNtxBit     := 0
  ctrlNtyBit     := 1
  ctrlSprBankBit := 3
  ctrlBgBankBit  := 4
  ctrlSprSizeBit := 5
  bgBank         := .controlBit
  vramIndex      := .mod16K
  dmaSource      := .raw
  read4014       := .zero
  statusSource   := .constant
  strobeReset    := .none

end Sys2Proof.Machine
end

