-- ==== Sys2Proof/Machine/Surface.lean ====
section
/-! DEFINITION. Surfaces of colours (spec/00_scope.md R16): as State holds them, and as a composition works on them. -/

namespace Sys2Proof.Machine

/-- A surface of w by h colours, row 0 at the top, column 0 at the left: `surf[y][x]` (R16). -/
abbrev Surface (w h : Nat) := Vector (Vector Colour w) h

/-- A surface while a composition draws on it: the colour at column x of row y. What lies outside the surface it
is stored into is discarded there (R16, clipped). -/
abbrev Canvas := Nat → Nat → Colour

/-- Store a canvas into a w by h surface; what lies outside is clipped (R16). -/
@[irreducible] def Canvas.store (w h : Nat) (c : Canvas) : Surface w h :=
  tabulate h fun y => tabulate w fun x => c x y

/-- The pixel at (x, y), none outside the surface (R16). -/
def pixelAt {w h : Nat} (surf : Surface w h) (x y : Nat) : Option Colour :=
  surf[y]?.bind fun row => row[x]?

/-- A surface as a canvas to draw on. What a surface does not hold is never read. -/
def surfaceCanvas {w h : Nat} (surf : Surface w h) : Canvas := fun x y => (pixelAt surf x y).getD default

/-- A canvas of w columns whose pixels are unconstrained: draws n, n+1, ... in row order (R14; log 5). -/
def drawnCanvas (w n : Nat) : Canvas := fun x y => Config.drawColour (n + y * w + x)

end Sys2Proof.Machine
end

