-- ==== Sys2Proof/Machine/State.lean ====
section
/-! DEFINITION. The machine's state as plain data (spec/10_state.md R20), the reasons a step can stop, and the launch
state (spec/70_reset_and_hazards.md R320). -/

namespace Sys2Proof.Machine

/-- Bytes by address in one canonical form: addresses strictly rising, no byte equal to what an unlisted address
reads as (`unlistedByte`). -/
abbrev Memory := List Host.Cell

/-- What an address no cell lists reads as. The contents at launch are parameters (R320); this is the value of every
byte a launch does not list (DESIGN CHOICE, log 2). -/
abbrev unlistedByte : Byte := 0

/-- The canonical form of a memory of `size` bytes. -/
abbrev Memory.wf (size : Nat) (m : Memory) : Prop :=
  m.Pairwise (fun c d => c.1 < d.1) ∧ ∀ c ∈ m, c.2 ≠ unlistedByte ∧ c.1 < size

/-- Whether an unimplemented access was a read or a write (R39). -/
inductive DiagKind where
  | read
  | write
deriving DecidableEq, Repr

/-- One diagnostic event, `Diag(kind, mapped address)` (R39). -/
structure Diag where
  kind : DiagKind
  addr : Addr
deriving DecidableEq, Repr

/-- The state record of R20, the launch parameters INIT restores, and the model's own fields. -/
structure State where
  /-- The implementation parameters (R9); no operation changes them. The MODEL's field (log 1). -/
  params : Params
  /-- Launch contents of `cpuMem`, which INIT restores (R270, R320, R322). -/
  cpuMem0 : Memory
  /-- Launch contents of `vram`, which INIT restores (R270, R320, R322). -/
  vram0 : Memory
  /-- The CPU bus store, 65,536 bytes (R32). -/
  cpuMem : Memory
  /-- VideoMemory, 16,384 bytes, palette RAM included (R33, R35). -/
  vram : Memory
  /-- Object Attribute Memory (R34). -/
  oam : Vector Byte 256
  /-- Control register (R24). -/
  control : Byte
  /-- Mask register (R25). -/
  mask : Byte
  /-- Status register (R26). -/
  status : Byte
  /-- OAM address (R27). -/
  oamAddr : Byte
  /-- VRAM address (R28). -/
  vramAddr : Addr
  /-- False: the next write to mapped 0x2006 sets the high byte (R28, R43). -/
  writeLatch : Bool
  /-- Horizontal scroll (R31). -/
  scrollX : Byte
  /-- Vertical scroll (R31). -/
  scrollY : Byte
  /-- The button byte of each port (R37, R38). -/
  buttons : Vector Byte 2
  /-- The shift mask of each port (R37). -/
  currentBit : Vector Byte 2
  /-- The strobe latch both ports share (R37, R43). -/
  controllerLatch : Bool
  /-- The 512 x 480 composite surface (R30). -/
  composite : Surface Config.compositeWidth Config.compositeHeight
  /-- The 256 x 240 frame buffer (R29). -/
  frame : Surface Config.frameWidth Config.frameHeight
  /-- Diagnostic events, oldest first (R39). -/
  diag : List Diag
  /-- Set by a refused word, never cleared (R40, R99). -/
  refused : Bool
  /-- Set by a VideoMemory access past its end under `P_VRAM_INDEX = Fault`, never cleared (R40, R61). -/
  faulted : Bool
  /-- The byte the last operation returned, none if it returned none (R14, R92). The MODEL's field (log 4). -/
  result : Option Byte
  /-- How many free values have been drawn (R14). The MODEL's field (log 5). -/
  draws : Nat
  /-- The operation words the callers have issued and the block has not run, oldest first (R23, R72). The MODEL's
  field (log 3). -/
  pending : List OpWord
deriving DecidableEq, Repr

/-- Reasons a step can fault. There are none: "No operation of the block raises a synchronous exception" (R300), and
the mark of R61 is the field `faulted` of a next state. Nobody raises one, which is safe (log 7). -/
inductive Fault where
deriving DecidableEq, Repr

/-- Reasons a step can be refused. -/
inductive Refusal where
  /-- `exec` alone would raise it, for an operation that has no meaning yet; safe. No arm does. -/
  | notModelled (mnemonic : String)
deriving DecidableEq, Repr

/-- Surface pixels a launch or an INIT draws: the composite's and the frame's. -/
abbrev surfaceDraws : Nat :=
  Config.compositeWidth * Config.compositeHeight + Config.frameWidth * Config.frameHeight

/-- The launch state of R320, with the values of R41: registers, OAM and controller zero, latches false, surfaces
unconstrained, no diagnostic, neither mark set. -/
def State.launch (params : Params) (cpuMem0 vram0 : Memory) (scrollX0 scrollY0 : Byte) : State where
  params          := params
  cpuMem0         := cpuMem0
  vram0           := vram0
  cpuMem          := cpuMem0
  vram            := vram0
  oam             := tabulate 256 fun _ => 0
  control         := 0
  mask            := 0
  status          := 0
  oamAddr         := 0
  vramAddr        := 0
  writeLatch      := false
  scrollX         := scrollX0
  scrollY         := scrollY0
  buttons         := tabulate 2 fun _ => 0
  currentBit      := tabulate 2 fun _ => 0
  controllerLatch := false
  composite       := (drawnCanvas Config.compositeWidth 0).store _ _
  frame           := (drawnCanvas Config.frameWidth (Config.compositeWidth * Config.compositeHeight)).store _ _
  diag            := []
  refused         := false
  faulted         := false
  result          := none
  draws           := surfaceDraws
  pending         := []

/-- The machine right after reset: the launch state under the default parameters (R9), with no byte listed in either
memory and the scroll at its default 0 (R320; log 2, 12, 13). -/
def State.reset : State := State.launch defaultParams [] [] 0 0

end Sys2Proof.Machine
end

