-- ==== Sys2Proof/Machine/Flags.lean ====
section
/-! DEFINITION. The computations of the block's one-bit state and of what it gates (spec/10_state.md R43; the block has no
condition codes): the VRAM address latch, the strobe latch, the controller shift mask. -/

namespace Sys2Proof.Machine

/-- The VRAM address after a byte written at mapped 0x2006: the high byte while the latch is false, else the low
byte; the other byte is kept (R135). -/
def latchVramAddr (latch : Bool) (v : Addr) (data : Byte) : Addr :=
  if latch then (v &&& 0xFF00) ||| data.setWidth 16
  else (data.setWidth 16 <<< 8) ||| (v &&& 0x00FF)

/-- The write latch after a byte written at mapped 0x2006 (R135). -/
def flipLatch (latch : Bool) : Bool := !latch

/-- The strobe latch a byte written at 0x4016 sets: its bit 0 (R138). -/
def strobeLatch (data : Byte) : Bool := data &&& 1 == 1

/-- A shift mask of 0 starts again at bit 7 (R253). -/
def reinitMask (mask : Byte) : Byte := if mask = 0 then 0x80 else mask

/-- The bit a shifting poll returns under a mask (R253). -/
def pollBit (buttons mask : Byte) : Bool := buttons &&& mask != 0

/-- The byte a poll's bit is returned as: `zext_8` (R254). -/
def pollByte (bit : Bool) : Byte := if bit then 0x01 else 0x00

/-- A mask the shift register can hold: 0 or one-hot (R37). -/
def maskLegal (mask : Byte) : Bool :=
  [0x00, 0x01, 0x02, 0x04, 0x08, 0x10, 0x20, 0x40, 0x80].contains mask

end Sys2Proof.Machine
end

