-- ==== Sys2Proof/Machine/Operands.lean ====
section
/-! DEFINITION. Operand forms: the CPU address normalisation, the VideoMemory index, the OAM DMA source address, the
fields of `control`, of a sprite record and of a tile address (spec/30_encoding.md R103). -/

namespace Sys2Proof.Machine

/-- CPU address normalisation (R120). -/
def addrMap (a : Addr) : Addr :=
  if a.toNat < 0x2000 then BitVec.ofNat 16 (a.toNat % 0x0800)
  else if a.toNat < 0x4000 then BitVec.ofNat 16 (0x2000 + a.toNat % 0x2000 % 8)
  else a

/-- The VideoMemory index of `vramAddr`; none where the access goes past the store under `Fault` (R61). -/
def vramIndex (mode : VramIndexing) (v : Addr) : Option Nat :=
  match mode with
  | .mod16K => some (v.toNat % 0x4000)
  | .fault => if v.toNat < 0x4000 then some v.toNat else none

/-- The i-th source address of an OAM DMA from a page: `(P << 8) + i` (R137). -/
def dmaAddr (page : Byte) (i : Nat) : Addr := BitVec.ofNat 16 (page.toNat * 256 + i)

/-- A bit of `control` as a number, 0 or 1: `(S.control >> k) & 1` (R24). -/
def controlBit (s : State) (k : Fin 8) : Nat := (s.control.toNat >>> k.val) &&& 1

/-- The background pattern bank (R201). -/
def bgBank (s : State) : Nat :=
  match s.params.bgBank with
  | .controlBit => controlBit s s.params.ctrlBgBankBit
  | .fixed0 => 0
  | .fixed1 => 1

/-- Effective horizontal scroll, 0..511 (R210). -/
def scrollXEff (s : State) : Nat := s.scrollX.toNat + 256 * controlBit s s.params.ctrlNtxBit

/-- Effective vertical scroll, 0..495 (R210). -/
def scrollYEff (s : State) : Nat := s.scrollY.toNat + 240 * controlBit s s.params.ctrlNtyBit

/-- 8x16 sprites are selected (R231). -/
def spritesTall (s : State) : Bool := controlBit s s.params.ctrlSprSizeBit == 1

/-- The pattern bank of 8x8 sprites (R232). -/
def spriteBank (s : State) : Nat := controlBit s s.params.ctrlSprBankBit

/-- The VideoMemory address of a tile's first byte (R188). -/
def tileAddr (bank t : Nat) : Nat := 0x1000 * bank + 16 * t

/-- The i-th byte of OAM. Every index the rules use is below 256 (R62). -/
def State.oamByte (s : State) (i : Nat) : Byte := if h : i < 256 then s.oam[i] else 0

/-- The fields of a sprite record (R34). -/
structure SpriteRecord where
  y : Nat
  tile : Nat
  attr : Byte
  x : Nat
deriving DecidableEq, Repr

/-- Sprite record n (R34). -/
def spriteRecord (s : State) (n : Nat) : SpriteRecord where
  y := (s.oamByte (4 * n)).toNat
  tile := (s.oamByte (4 * n + 1)).toNat
  attr := s.oamByte (4 * n + 2)
  x := (s.oamByte (4 * n + 3)).toNat

/-- Horizontal flip: attribute bit 6 (R235). -/
def SpriteRecord.flipH (r : SpriteRecord) : Bool := r.attr.getLsbD 6

/-- Vertical flip: attribute bit 7 (R235). -/
def SpriteRecord.flipV (r : SpriteRecord) : Bool := r.attr.getLsbD 7

/-- The palette base of a sprite (R234). -/
def SpriteRecord.paletteBase (r : SpriteRecord) : Nat := 0x10 ||| ((r.attr.toNat &&& 3) <<< 2)

end Sys2Proof.Machine
end

