-- ==== Sys2Proof/Machine/Ops.lean ====
section
/-! DEFINITION. The named operations over memories and registers that every meaning is made of: the primitives of
spec/00_scope.md R13, one update per field, the free values, and how an operation ends. The block takes no exception
and returns from none (R300, R306), so there is no such operation. -/

namespace Sys2Proof.Machine

/-! ### Memory (R13: one byte, no side effect) -/

/-- The byte at an address. -/
def Memory.read : Memory → Nat → Byte
  | [], _ => unlistedByte
  | (a, b) :: m, k => if k = a then b else Memory.read m k

/-- Put a cell before the first one with a higher address. -/
def Memory.insert (k : Nat) (v : Byte) : Memory → Memory
  | [] => [(k, v)]
  | (a, b) :: m => if k < a then (k, v) :: (a, b) :: m else (a, b) :: Memory.insert k v m

/-- Take out every cell of an address. -/
def Memory.erase (m : Memory) (k : Nat) : Memory := m.filter fun c => c.1 != k

/-- Store a byte, keeping the canonical form: the byte an unlisted address reads as is not listed. -/
def Memory.write (m : Memory) (k : Nat) (v : Byte) : Memory :=
  if v = unlistedByte then m.erase k else Memory.insert k v (m.erase k)

/-! ### One update per field -/

def State.setCpuMem (s : State) (m : Memory) : State := { s with cpuMem := m }
def State.setVram (s : State) (m : Memory) : State := { s with vram := m }
def State.setOam (s : State) (o : Vector Byte 256) : State := { s with oam := o }
def State.setControl (s : State) (v : Byte) : State := { s with control := v }
def State.setMask (s : State) (v : Byte) : State := { s with mask := v }
def State.setOamAddr (s : State) (v : Byte) : State := { s with oamAddr := v }
def State.setVramAddr (s : State) (v : Addr) : State := { s with vramAddr := v }
def State.setWriteLatch (s : State) (b : Bool) : State := { s with writeLatch := b }
def State.setButtons (s : State) (p : Port) (v : Byte) : State := { s with buttons := s.buttons.set p.val v p.isLt }
def State.setCurrentBit (s : State) (p : Port) (v : Byte) : State :=
  { s with currentBit := s.currentBit.set p.val v p.isLt }
def State.setControllerLatch (s : State) (b : Bool) : State := { s with controllerLatch := b }
def State.setComposite (s : State) (c : Surface Config.compositeWidth Config.compositeHeight) : State :=
  { s with composite := c }
def State.setFrame (s : State) (c : Surface Config.frameWidth Config.frameHeight) : State := { s with frame := c }
/-- Append a diagnostic event (R39). -/
def State.addDiag (s : State) (kind : DiagKind) (mapped : Addr) : State := { s with diag := s.diag ++ [⟨kind, mapped⟩] }
/-- The run carries a refusal mark for good (R99). -/
def State.markRefused (s : State) : State := { s with refused := true }
/-- A VideoMemory access went past the store under `P_VRAM_INDEX = Fault` (R61). -/
def State.markFaulted (s : State) : State := { s with faulted := true }
def State.setResult (s : State) (r : Option Byte) : State := { s with result := r }
/-- n free values have been drawn (R14). -/
def State.advanceDraws (s : State) (n : Nat) : State := { s with draws := s.draws + n }
def State.setPending (s : State) (ws : List OpWord) : State := { s with pending := ws }

/-! ### The backing stores -/

/-- `MemRead(CPU, a, 1)` (R13). -/
def State.cpuByte (s : State) (a : Addr) : Byte := s.cpuMem.read a.toNat

/-- `MemWrite(CPU, a, 1, v)` (R13). -/
def State.writeCpuByte (s : State) (a : Addr) (v : Byte) : State := s.setCpuMem (s.cpuMem.write a.toNat v)

/-- `MemRead(VRAM, k, 1)` (R13). -/
def State.vramByte (s : State) (k : Nat) : Byte := s.vram.read k

/-- `MemWrite(VRAM, k, 1, v)` (R13). -/
def State.writeVramByte (s : State) (k : Nat) (v : Byte) : State := s.setVram (s.vram.write k v)

/-- `S.oam[i] <- v` (R13). Every index the rules use is below 256 (R62). -/
def State.writeOamByte (s : State) (i : Nat) (v : Byte) : State :=
  if h : i < 256 then s.setOam (s.oam.set i v h) else s

/-- A fresh unconstrained byte, `draw()` (R14; log 5). -/
def State.drawByte (s : State) : State × Byte := (s.advanceDraws 1, Config.drawByte s.draws)

/-! ### How an operation ends (R14) -/

/-- A bus read returns a new state and a byte. -/
def answer (r : State × Byte) : Host.Outcome State Fault Refusal := .next (r.1.setResult (some r.2))

/-- Every other operation returns a new state and no byte. -/
def complete (s : State) : Host.Outcome State Fault Refusal := .next (s.setResult none)

/-! ### The callers' sequence (R23, R72; log 3) -/

/-- A word no row selects changes no hardware state and marks the run refused (R99). -/
def refuseWord (s : State) : Host.Outcome State Fault Refusal := complete s.markRefused

/-- The block "acts only when a caller issues an operation, and its state persists between operations" (R312). -/
def idle (s : State) : Host.Outcome State Fault Refusal := .next s

/-- A caller's word placed before those already issued. -/
def State.issueFirst (s : State) (w : OpWord) : State := s.setPending (w :: s.pending)

end Sys2Proof.Machine
end

