-- ==== Sys2Proof/Machine/Controller.lean ====
section
/-! DEFINITION. The controller interface: the shift-register protocol of spec/45_controller.md, and the host's input
sampling (spec/46_host_operations.md R272). -/

namespace Sys2Proof.Machine

/-- `poll(p)` while strobed: the answer is 0, and only `OnStrobedPoll` clears the shift mask (R251, R252, R253). -/
def pollStrobed (p : Port) (s : State) : State × Bool :=
  (if s.params.strobeReset = .onStrobedPoll then s.setCurrentBit p 0 else s, false)

/-- `poll(p)` while shifting (R253). -/
def pollShifting (p : Port) (s : State) : State × Bool :=
  (s.setCurrentBit p (reinitMask s.currentBit[p] >>> 1), pollBit s.buttons[p] (reinitMask s.currentBit[p]))

/-- `poll(p)` (R253). -/
def poll (p : Port) (s : State) : State × Bool :=
  if s.controllerLatch then pollStrobed p s else pollShifting p s

/-- A bus read of a controller port: `zext_8(poll(p))` (R154, R155, R254). -/
def pollRead (p : Port) (s : State) : State × Byte := ((poll p s).1, pollByte (poll p s).2)

/-- A write of the strobe: the latch takes bit 0, and `OnLatchWrite` clears both shift masks when it is 1 (R138, R147). -/
def strobeWrite (data : Byte) (s : State) : State :=
  if s.params.strobeReset = .onLatchWrite ∧ strobeLatch data = true then
    ((s.setControllerLatch (strobeLatch data)).setCurrentBit 0 0).setCurrentBit 1 0
  else s.setControllerLatch (strobeLatch data)

/-- READ_JOY1 (R154). -/
def execReadJoy1 (s : State) : Host.Outcome State Fault Refusal := answer (pollRead 0 s)

/-- READ_JOY2 (R155). -/
def execReadJoy2 (s : State) : Host.Outcome State Fault Refusal := answer (pollRead 1 s)

/-- WRITE_JOYSTROBE (R138). -/
def execWriteJoyStrobe (data : Byte) (s : State) : Host.Outcome State Fault Refusal := complete (strobeWrite data s)

/-- SAMPLE_INPUT (R272). -/
def execSampleInput (port : Port) (value : Byte) (s : State) : Host.Outcome State Fault Refusal :=
  complete (s.setButtons port value)

end Sys2Proof.Machine
end

