-- ==== Sys2Proof/Machine/BusReads.lean ====
section
/-! DEFINITION. The bus reads (spec/40_memory_bus.md section 3): the read rules, the dispatch `BusRead` of R122, and the
meaning of every BUS_READ row but the controller's two (Machine/Controller.lean). -/

namespace Sys2Proof.Machine

/-- The unimplemented-register read policy: a diagnostic event at the mapped address, and 0 (R158). -/
def unimplementedRead (a : Addr) (s : State) : State × Byte := (s.addDiag .read (addrMap a), 0)

/-- A read of the CPU store at a mapped address (R150, R156). -/
def ramRead (a : Addr) (s : State) : State × Byte := (s, s.cpuByte (addrMap a))

/-- `statusValue()` (R151, R152): the register, or an unconstrained byte under `Draw`. -/
def statusRead (s : State) : State × Byte :=
  match s.params.statusSource with
  | .constant => (s, s.status)
  | .draw => s.drawByte

/-- A read of the VRAM data port: the byte at once, `vramAddr` unchanged; past the store under `Fault`, the mark and an
unconstrained byte (R153, R61). -/
def vramDataRead (s : State) : State × Byte :=
  match vramIndex s.params.vramIndex s.vramAddr with
  | some k => (s, s.vramByte k)
  | none => s.markFaulted.drawByte

/-- A read of 0x4014 (R159). -/
def dmaPortRead (s : State) : State × Byte :=
  match s.params.read4014 with
  | .zero => unimplementedRead 0x4014 s
  | .ram => (s, s.cpuByte 0x4014)

/-- `BusRead(a)`: the read rule chosen by the mapped address (R122). -/
def busRead (a : Addr) (s : State) : State × Byte :=
  if addrMap a < 0x2000 then ramRead a s
  else if addrMap a = 0x2002 then statusRead s
  else if addrMap a = 0x2007 then vramDataRead s
  else if addrMap a < 0x4014 then unimplementedRead a s
  else if addrMap a = 0x4014 then dmaPortRead s
  else if addrMap a = 0x4015 then unimplementedRead a s
  else if addrMap a = 0x4016 then pollRead 0 s
  else if addrMap a = 0x4017 then pollRead 1 s
  else ramRead a s

/-- READ_RAM_LOW (R150). -/
def execReadRamLow (addr : Addr) (s : State) : Host.Outcome State Fault Refusal := answer (ramRead addr s)

/-- READ_STATUS (R151). -/
def execReadStatus (_addr : Addr) (s : State) : Host.Outcome State Fault Refusal := answer (statusRead s)

/-- READ_VRAMDATA (R153). -/
def execReadVramData (_addr : Addr) (s : State) : Host.Outcome State Fault Refusal :=
  answer (vramDataRead s)

/-- READ_4014 (R159). -/
def execRead4014 (s : State) : Host.Outcome State Fault Refusal := answer (dmaPortRead s)

/-- READ_APU_4015 (R167). -/
def execReadApu4015 (s : State) : Host.Outcome State Fault Refusal := answer (unimplementedRead 0x4015 s)

/-- READ_RAM_HIGH (R156). -/
def execReadRamHigh (addr : Addr) (s : State) : Host.Outcome State Fault Refusal := answer (ramRead addr s)

/-- READ_CONTROL (R157). -/
def execReadControl (addr : Addr) (s : State) : Host.Outcome State Fault Refusal := answer (unimplementedRead addr s)

/-- READ_MASK (R160). -/
def execReadMask (addr : Addr) (s : State) : Host.Outcome State Fault Refusal := answer (unimplementedRead addr s)

/-- READ_OAMADDR (R161). -/
def execReadOamAddr (addr : Addr) (s : State) : Host.Outcome State Fault Refusal := answer (unimplementedRead addr s)

/-- READ_OAMDATA (R162). -/
def execReadOamData (addr : Addr) (s : State) : Host.Outcome State Fault Refusal := answer (unimplementedRead addr s)

/-- READ_SCROLL (R163). -/
def execReadScroll (addr : Addr) (s : State) : Host.Outcome State Fault Refusal := answer (unimplementedRead addr s)

/-- READ_VRAMADDR (R164). -/
def execReadVramAddr (addr : Addr) (s : State) : Host.Outcome State Fault Refusal := answer (unimplementedRead addr s)

/-- READ_APU_4000 (R165). -/
def execReadApu4000 (addr : Addr) (s : State) : Host.Outcome State Fault Refusal := answer (unimplementedRead addr s)

/-- READ_APU_4010 (R166). -/
def execReadApu4010 (addr : Addr) (s : State) : Host.Outcome State Fault Refusal := answer (unimplementedRead addr s)

end Sys2Proof.Machine
end

