-- ==== Sys2Proof/Machine/BusWrites.lean ====
section
/-! DEFINITION. The bus writes (spec/40_memory_bus.md section 2): the write rules, the dispatch `BusWrite` of R121, and the
meaning of every BUS_WRITE row but the strobe's (Machine/Controller.lean). -/

namespace Sys2Proof.Machine

/-- The unimplemented-register write policy: a diagnostic event at the mapped address and nothing else (R141). -/
def unimplementedWrite (a : Addr) (s : State) : State := s.addDiag .write (addrMap a)

/-- A write of the CPU store at a mapped address (R130, R139). -/
def ramWrite (a : Addr) (data : Byte) (s : State) : State := s.writeCpuByte (addrMap a) data

/-- The OAM data port: the byte lands at `oamAddr`, which then wraps to the next (R134). -/
def oamDataWrite (data : Byte) (s : State) : State := (s.writeOamByte s.oamAddr.toNat data).setOamAddr (s.oamAddr + 1)

/-- The VRAM address port: one byte of `vramAddr` by the latch, which flips (R135). -/
def vramAddrWrite (data : Byte) (s : State) : State :=
  (s.setVramAddr (latchVramAddr s.writeLatch s.vramAddr data)).setWriteLatch (flipLatch s.writeLatch)

/-- The VRAM data port: one byte of VideoMemory, `vramAddr` unchanged; past the store under `Fault`, only the mark
(R136, R61). -/
def vramDataWrite (data : Byte) (s : State) : State :=
  match vramIndex s.params.vramIndex s.vramAddr with
  | some k => s.writeVramByte k data
  | none => s.markFaulted

/-- The source byte of an OAM DMA: the store itself, or a bus read with its side effects (R146). -/
def dmaSource (mode : DmaSource) (a : Addr) (s : State) : State × Byte :=
  match mode with
  | .raw => (s, s.cpuByte a)
  | .mapped => busRead a s

/-- One byte of an OAM DMA: `S.oam[i] <- dmaSource((P << 8) + i)` (R137). -/
def dmaStep (mode : DmaSource) (page : Byte) (s : State) (i : Nat) : State :=
  (dmaSource mode (dmaAddr page i) s).1.writeOamByte i (dmaSource mode (dmaAddr page i) s).2

/-- OAM DMA: 256 bytes of a page in order, from OAM index 0; `oamAddr` is neither read nor written (R137). -/
@[irreducible] def oamDma (page : Byte) (s : State) : State := (List.range 256).foldl (dmaStep s.params.dmaSource page) s

/-- `BusWrite(a, v)`: the write rule chosen by the mapped address (R121). -/
def busWrite (a : Addr) (v : Byte) (s : State) : State :=
  if addrMap a < 0x2000 then ramWrite a v s
  else if addrMap a = 0x2000 then s.setControl v
  else if addrMap a = 0x2001 then s.setMask v
  else if addrMap a = 0x2002 then unimplementedWrite a s
  else if addrMap a = 0x2003 then s.setOamAddr v
  else if addrMap a = 0x2004 then oamDataWrite v s
  else if addrMap a = 0x2005 then unimplementedWrite a s
  else if addrMap a = 0x2006 then vramAddrWrite v s
  else if addrMap a = 0x2007 then vramDataWrite v s
  else if addrMap a < 0x4014 then unimplementedWrite a s
  else if addrMap a = 0x4014 then oamDma v s
  else if addrMap a = 0x4015 then unimplementedWrite a s
  else if addrMap a = 0x4016 then strobeWrite v s
  else if addrMap a = 0x4017 then unimplementedWrite a s
  else ramWrite a v s

/-- WRITE_RAM_LOW (R130). -/
def execWriteRamLow (addr : Addr) (data : Byte) (s : State) : Host.Outcome State Fault Refusal :=
  complete (ramWrite addr data s)

/-- WRITE_CONTROL (R131). -/
def execWriteControl (_addr : Addr) (data : Byte) (s : State) : Host.Outcome State Fault Refusal :=
  complete (s.setControl data)

/-- WRITE_MASK (R132). -/
def execWriteMask (_addr : Addr) (data : Byte) (s : State) : Host.Outcome State Fault Refusal :=
  complete (s.setMask data)

/-- WRITE_OAMADDR (R133). -/
def execWriteOamAddr (_addr : Addr) (data : Byte) (s : State) : Host.Outcome State Fault Refusal :=
  complete (s.setOamAddr data)

/-- WRITE_OAMDATA (R134). -/
def execWriteOamData (_addr : Addr) (data : Byte) (s : State) : Host.Outcome State Fault Refusal :=
  complete (oamDataWrite data s)

/-- WRITE_VRAMADDR (R135). -/
def execWriteVramAddr (_addr : Addr) (data : Byte) (s : State) : Host.Outcome State Fault Refusal :=
  complete (vramAddrWrite data s)

/-- WRITE_VRAMDATA (R136). -/
def execWriteVramData (_addr : Addr) (data : Byte) (s : State) : Host.Outcome State Fault Refusal :=
  complete (vramDataWrite data s)

/-- WRITE_OAMDMA (R137). -/
def execWriteOamDma (page : Byte) (s : State) : Host.Outcome State Fault Refusal :=
  complete (oamDma page s)

/-- WRITE_APU_4015 (R148). -/
def execWriteApu4015 (_data : Byte) (s : State) : Host.Outcome State Fault Refusal :=
  complete (unimplementedWrite 0x4015 s)

/-- WRITE_APU_4017 (R149). -/
def execWriteApu4017 (_data : Byte) (s : State) : Host.Outcome State Fault Refusal :=
  complete (unimplementedWrite 0x4017 s)

/-- WRITE_RAM_HIGH (R139). -/
def execWriteRamHigh (addr : Addr) (data : Byte) (s : State) : Host.Outcome State Fault Refusal :=
  complete (ramWrite addr data s)

/-- WRITE_STATUS (R140). -/
def execWriteStatus (addr : Addr) (_data : Byte) (s : State) : Host.Outcome State Fault Refusal :=
  complete (unimplementedWrite addr s)

/-- WRITE_SCROLL (R142). -/
def execWriteScroll (addr : Addr) (_data : Byte) (s : State) : Host.Outcome State Fault Refusal :=
  complete (unimplementedWrite addr s)

/-- WRITE_APU_4000 (R143). -/
def execWriteApu4000 (addr : Addr) (_data : Byte) (s : State) : Host.Outcome State Fault Refusal :=
  complete (unimplementedWrite addr s)

/-- WRITE_APU_4010 (R144). -/
def execWriteApu4010 (addr : Addr) (_data : Byte) (s : State) : Host.Outcome State Fault Refusal :=
  complete (unimplementedWrite addr s)

end Sys2Proof.Machine
end

