-- ==== Sys2Proof/Machine/Tiles.lean ====
section
/-! DEFINITION. The palette table (spec/41_palette.md) and the tile decoder (spec/42_tile_decoder.md): functions of
VideoMemory and the parameters, which write no state (R191). -/

namespace Sys2Proof.Machine

/-- A decoded pixel (R15). -/
inductive Pixel where
  | transparent
  | solid (c : Colour)   -- the spec's Opaque(c)
deriving DecidableEq, Repr

/-- What rendering reads besides its arguments: the VideoMemory bytes and the parameters (R191). -/
structure VideoView where
  params : Params
  byte : Nat → Byte

/-- The view of a state's VideoMemory. -/
def State.video (s : State) : VideoView := ⟨s.params, s.vramByte⟩

/-- The bytes of a memory laid out once in an array; only how compiled code looks a byte up. -/
def Memory.layout (m : Memory) : Array Byte :=
  m.foldr (fun c a => a.setIfInBounds c.1 c.2) (Array.replicate Config.vramSize unlistedByte)

/-- The view of a state's VideoMemory over its layout. -/
def State.videoFast (s : State) : VideoView :=
  let a := Memory.layout s.vram
  ⟨s.params, fun k => a[k]?.getD (s.vram.read k)⟩

theorem Memory.layout_cons (c : Host.Cell) (m : Memory) :
    Memory.layout (c :: m) = (Memory.layout m).setIfInBounds c.1 c.2 := rfl

theorem Memory.layout_size (m : Memory) : (Memory.layout m).size = Config.vramSize := by
  induction m with
  | nil => simp [Memory.layout]
  | cons c m ih => rw [Memory.layout_cons, Array.size_setIfInBounds, ih]

theorem Memory.layout_read (m : Memory) (k : Nat) : (Memory.layout m)[k]?.getD (m.read k) = m.read k := by
  induction m with
  | nil => simp [Memory.layout, Memory.read, Array.getElem?_replicate]; split <;> rfl
  | cons c m ih =>
    obtain ⟨a, b⟩ := c
    simp only [Memory.layout_cons, Memory.read, Array.getElem?_setIfInBounds, Memory.layout_size]
    by_cases hk : k = a
    · subst hk; simp; split <;> rfl
    · simpa [hk, Ne.symm hk] using ih

/-- Compiled code may look bytes up in the layout: it is the same view. -/
@[csimp] theorem video_eq_videoFast : @State.video = @State.videoFast := by
  funext s
  simp only [State.video, State.videoFast, VideoView.mk.injEq, true_and]
  funext k
  exact (Memory.layout_read _ _).symm

/-- `MASTER(j)` (R171). -/
def master (p : Params) (j : Fin 64) : Colour := p.masterPalette[j].toColour

/-- Colour resolve of a palette RAM index (R172). -/
def resolve (v : VideoView) (k : Nat) : Colour :=
  master v.params ⟨(v.byte (0x3F00 + k % 32)).toNat % 64, Nat.mod_lt _ (by decide)⟩

/-- The universal colour (R173). -/
def universal (v : VideoView) : Colour := resolve v 0

/-- The 2-bit pixel index of a bit of plane A and a bit of plane B (R181). -/
def mux (order : PlaneOrder) (a b : Nat) : Nat :=
  match order with
  | .lowFirst => a ||| (b <<< 1)
  | .highFirst => b ||| (a <<< 1)

/-- The plane bit that output column c shows (R182). -/
def srcBit (order : ColumnOrder) (c : Nat) (flipH : Bool) : Nat :=
  match order with
  | .msbLeft => if flipH then c else 7 - c
  | .lsbLeft => if flipH then 7 - c else c

/-- The source row that output row r shows (R184). -/
def srcRow (r : Nat) (flipV : Bool) : Nat := if flipV then 7 - r else r

/-- Bit k of the VideoMemory byte at an address (R183). -/
def planeBit (v : VideoView) (addr k : Nat) : Nat := ((v.byte addr).toNat >>> k) &&& 1

/-- The pixel index at source row j and output column c of the tile at `addr` (R183). -/
def pix (v : VideoView) (addr j c : Nat) (flipH : Bool) : Nat :=
  mux v.params.planeOrder
    (planeBit v (addr + j) (srcBit v.params.columnOrder c flipH))
    (planeBit v (addr + j + 8) (srcBit v.params.columnOrder c flipH))

/-- A pixel index under a palette base (R186). -/
def decodedPixel (v : VideoView) (p base : Nat) : Pixel :=
  if p = 0 then .transparent else .solid (resolve v (base ||| p))

/-- `decodeTile(s, flipH, flipV, paletteBase)` as the pixel at output row r, column c (R180, R184, R187). -/
def decodeTile (v : VideoView) (addr : Nat) (flipH flipV : Bool) (base : Nat) (r c : Nat) : Pixel :=
  decodedPixel v (pix v addr (srcRow r flipV) c flipH) base

/-- A decoded pixel over a colour: a transparent one leaves what is there (R206, R238). -/
def Pixel.over : Pixel → Colour → Colour
  | .transparent, under => under
  | .solid c, _ => c

/-- Put one decoded pixel on a canvas (R206, R238). -/
def Canvas.put (f : Canvas) (x y : Nat) (p : Pixel) : Canvas := fun x' y' =>
  if x' = x ∧ y' = y then p.over (f x' y') else f x' y'

/-- Put the 8 x 8 pixels of a tile on a canvas one by one, rows first, its top left corner at (x, y) (R205, R241). -/
def Canvas.putTile (f : Canvas) (t : Nat → Nat → Pixel) (x y : Nat) : Canvas :=
  (List.range 8).foldl (fun g r => (List.range 8).foldl (fun g c => g.put (x + c) (y + r) (t r c)) g) f

/-- The same, read pixel by pixel: what a composition runs (log 8). -/
def Canvas.drawTile (f : Canvas) (t : Nat → Nat → Pixel) (x y : Nat) : Canvas := fun x' y' =>
  if x ≤ x' ∧ x' < x + 8 ∧ y ≤ y' ∧ y' < y + 8 then (t (y' - y) (x' - x)).over (f x' y') else f x' y'

end Sys2Proof.Machine
end

