-- ==== Sys2Proof/Machine/Background.lean ====
section
/-! DEFINITION. The background compositor (spec/43_background.md). `renderNametable` is read pixel by pixel, which is
what a composition runs; `walkNametable` is the tile walk of R202 and R205 as the spec writes it (log 8). -/

namespace Sys2Proof.Machine

/-- The attribute byte of a tile (R203). -/
def attrByte (v : VideoView) (tableAddr tileX tileY : Nat) : Byte :=
  v.byte (tableAddr + 960 + (tileY / 4 * 8 + tileX / 4))

/-- The palette base of a background tile (R204). -/
def attrPaletteBase (v : VideoView) (tableAddr tileX tileY : Nat) : Nat :=
  (((attrByte v tableAddr tileX tileY).toNat >>> (2 * (tileX / 2 % 2 + 2 * (tileY / 2 % 2)))) &&& 3) <<< 2

/-- The decoded tile at cell (tileX, tileY) of a nametable, never flipped (R202). -/
def nametableTile (v : VideoView) (bank tableAddr tileX tileY : Nat) : Nat → Nat → Pixel :=
  decodeTile v (tileAddr bank (v.byte (tableAddr + (32 * tileY + tileX))).toNat) false false
    (attrPaletteBase v tableAddr tileX tileY)

/-- One step of the tile walk: tile i of the table, placed on the composite surface (R202, R205). -/
def placeTile (v : VideoView) (bank tableAddr originX originY : Nat) (f : Canvas) (i : Nat) : Canvas :=
  f.putTile (nametableTile v bank tableAddr (i % 32) (i / 32))
    ((i % 32 * 8 + originX) % 512) ((i / 32 * 8 + originY) % 480)

/-- `renderNametable` as the walk over the 960 tile cells (R200, R202). -/
def walkNametable (v : VideoView) (bank tableAddr originX originY : Nat) (f : Canvas) : Canvas :=
  (List.range 960).foldl (placeTile v bank tableAddr originX originY) f

/-- `renderNametable` read pixel by pixel: inside the table's 256 x 240 region the pixel of the tile that covers it,
outside what was there (R200, R208; log 8). -/
def renderNametable (v : VideoView) (bank tableAddr originX originY : Nat) (f : Canvas) : Canvas := fun x y =>
  if originX ≤ x ∧ x < originX + 256 ∧ originY ≤ y ∧ y < originY + 240 then
    (nametableTile v bank tableAddr ((x - originX) / 8) ((y - originY) / 8)
      ((y - originY) % 8) ((x - originX) % 8)).over (f x y)
  else f x y

/-- The cleared composite surface (R207). -/
def clearedComposite (v : VideoView) : Canvas := fun _ _ => universal v

/-- The composite surface: cleared, then the four nametables in order (R207, R208). -/
def compositeCanvas (v : VideoView) (bank : Nat) : Canvas :=
  renderNametable v bank 0x2C00 256 240 <|
  renderNametable v bank 0x2800 0 240 <|
  renderNametable v bank 0x2400 256 0 <|
  renderNametable v bank 0x2000 0 0 <|
  clearedComposite v

/-- The composite surface by the tile walk (R202, R207, R208). -/
def compositeWalk (v : VideoView) (bank : Nat) : Canvas :=
  walkNametable v bank 0x2C00 256 240 <|
  walkNametable v bank 0x2800 0 240 <|
  walkNametable v bank 0x2400 256 0 <|
  walkNametable v bank 0x2000 0 0 <|
  clearedComposite v

/-- The main blit of the composite onto the frame (R211). -/
def mainBlit (comp : Canvas) (sx sy : Nat) (f : Canvas) : Canvas := fun x y =>
  if x + sx < 512 ∧ y + sy < 480 then comp (x + sx) (y + sy) else f x y

/-- The vertical seam blit, made when the span crosses row 480 (R212). -/
def verticalSeamBlit (comp : Canvas) (sx sy : Nat) (f : Canvas) : Canvas := fun x y =>
  if sy + 240 > 480 ∧ 480 ≤ y + sy ∧ x + sx < 512 then comp (x + sx) (y + sy - 480) else f x y

/-- The horizontal seam blit, made when the span crosses column 512 (R213). -/
def horizontalSeamBlit (comp : Canvas) (sx sy : Nat) (f : Canvas) : Canvas := fun x y =>
  if sx + 256 > 512 ∧ 512 ≤ x + sx ∧ y + sy < 480 then comp (x + sx - 512) (y + sy) else f x y

/-- What a frame pixel holds that no blit writes: `draw()`, "an unconstrained colour" (R215). The choice of the carried-over
value, which R274 names, is free and written out (log 5, 10). -/
def unstitchedPixel (old : Colour) (n : Nat) : Colour :=
  if Config.drawKeep n then old else Config.drawColour n

/-- What the blits draw over: an earlier frame, its pixels numbered from `draws` (R29, R215). -/
def unstitchedFrame (old : Canvas) (draws : Nat) : Canvas := fun x y =>
  unstitchedPixel (old x y) (draws + y * Config.frameWidth + x)

/-- The frame after the background pass: the three blits in order over what was under them (R211-R213). -/
def backgroundFrame (under comp : Canvas) (sx sy : Nat) : Canvas :=
  horizontalSeamBlit comp sx sy <| verticalSeamBlit comp sx sy <| mainBlit comp sx sy under

end Sys2Proof.Machine
end

