-- ==== Sys2Proof/Machine/Sprites.lean ====
section
/-! DEFINITION. The sprite compositor (spec/44_sprites.md). -/

namespace Sys2Proof.Machine

/-- One 8 x 8 half of a sprite: the address of its tile and the frame row of its top (R241). -/
structure SpriteHalf where
  addr : Nat
  top : Nat
deriving DecidableEq, Repr

/-- The halves of a sprite, in the order they are drawn (R232, R233, R236, R241). -/
def spriteHalves (s : State) (r : SpriteRecord) : List SpriteHalf :=
  if spritesTall s then
    if r.flipV then
      [⟨tileAddr (r.tile &&& 1) ((r.tile &&& 0xFE) + 1), r.y⟩, ⟨tileAddr (r.tile &&& 1) (r.tile &&& 0xFE), r.y + 8⟩]
    else
      [⟨tileAddr (r.tile &&& 1) (r.tile &&& 0xFE), r.y⟩, ⟨tileAddr (r.tile &&& 1) ((r.tile &&& 0xFE) + 1), r.y + 8⟩]
  else [⟨tileAddr (spriteBank s) r.tile, r.y⟩]

/-- The decoded tile of a half, both flips acting inside it (R235). -/
def halfTile (v : VideoView) (r : SpriteRecord) (h : SpriteHalf) : Nat → Nat → Pixel :=
  decodeTile v h.addr r.flipH r.flipV r.paletteBase

/-- Draw one sprite over a canvas, its tiles from the view, its record and the mode from the state. What falls outside the frame is clipped when the canvas is stored (R237, R16). -/
def drawSprite (v : VideoView) (s : State) (f : Canvas) (n : Nat) : Canvas :=
  (spriteHalves s (spriteRecord s n)).foldl
    (fun g h => g.drawTile (halfTile v (spriteRecord s n) h) (spriteRecord s n).x h.top) f

/-- The sprite pass: records 0 to 63 in ascending order, each over the ones before it (R230, R241). -/
def drawSprites (v : VideoView) (s : State) (f : Canvas) : Canvas := (List.range 64).foldl (drawSprite v s) f

/-- The decoded pixel a record shows at (x, y): that of the half covering it, transparent where none does (R242). -/
def recordPixel (v : VideoView) (s : State) (r : SpriteRecord) (x y : Nat) : Pixel :=
  if r.x ≤ x ∧ x < r.x + 8 then
    match (spriteHalves s r).find? fun h => decide (h.top ≤ y) && decide (y < h.top + 8) with
    | some h => halfTile v r h (y - h.top) (x - r.x)
    | none => .transparent
  else .transparent

/-- Put one pixel inside the frame; outside it nothing is written (R237, R238). -/
def framePut (f : Canvas) (x y : Nat) (p : Pixel) : Canvas := if x < 256 ∧ y < 240 then f.put x y p else f

/-- Draw one sprite pixel by pixel, as R241 writes it. -/
def putSprite (v : VideoView) (s : State) (f : Canvas) (n : Nat) : Canvas :=
  (spriteHalves s (spriteRecord s n)).foldl (fun g h =>
    (List.range 8).foldl (fun g r => (List.range 8).foldl (fun g c =>
      framePut g ((spriteRecord s n).x + c) (h.top + r) (halfTile v (spriteRecord s n) h r c)) g) g) f

/-- The sprite pass pixel by pixel, as R241 writes it. -/
def putSprites (v : VideoView) (s : State) (f : Canvas) : Canvas := (List.range 64).foldl (putSprite v s) f

end Sys2Proof.Machine
end

