-- ==== Sys2Proof/Machine/HostOps.lean ====
section
/-! DEFINITION. The host operations INIT and COMPOSE_FRAME (spec/46_host_operations.md). -/

namespace Sys2Proof.Machine

/-- INIT (R270): every hardware field at its value of R41, memories at their launch contents, surfaces unconstrained.
The marks `refused` and `faulted` stay (R40), as do the parameters and the callers' sequence. -/
def initState (s : State) : State :=
  { s with
    control := 0, mask := 0, status := 0, oamAddr := 0
    vramAddr := 0, writeLatch := false
    scrollX := 0, scrollY := 0
    oam := tabulate 256 fun _ => 0
    buttons := tabulate 2 fun _ => 0
    currentBit := tabulate 2 fun _ => 0
    controllerLatch := false
    cpuMem := s.cpuMem0, vram := s.vram0
    composite := (drawnCanvas Config.compositeWidth s.draws).store _ _
    frame := (drawnCanvas Config.frameWidth (s.draws + Config.compositeWidth * Config.compositeHeight)).store _ _
    diag := []
    draws := s.draws + surfaceDraws }

/-- Free values one composition draws: one for each frame pixel, used where no blit writes (R215; log 5). -/
abbrev frameDraws : Nat := Config.frameWidth * Config.frameHeight

/-- The frame one composition makes: the background pass, then the sprite pass over it (R271). -/
def frameCanvas (v : VideoView) (s : State) : Canvas :=
  drawSprites v s (backgroundFrame (unstitchedFrame (surfaceCanvas s.frame) s.draws)
    (compositeCanvas v (bgBank s)) (scrollXEff s) (scrollYEff s))

/-- COMPOSE_FRAME (R271), from the state as it stands (R76). -/
def composeFrame (s : State) : State :=
  let v := s.video
  ((s.setComposite ((compositeCanvas v (bgBank s)).store _ _)).setFrame ((frameCanvas v s).store _ _)).advanceDraws
    frameDraws

/-- INIT (R270). -/
def execInit (s : State) : Host.Outcome State Fault Refusal := complete (initState s)

/-- COMPOSE_FRAME (R271). -/
def execComposeFrame (s : State) : Host.Outcome State Fault Refusal := complete (composeFrame s)

end Sys2Proof.Machine
end

