-- ==== Sys2Proof/Machine/Dispatch.lean ====
section
/-! DEFINITION. One arm per operation (spec/30_encoding.md R102). -/

namespace Sys2Proof.Machine

def exec (i : Instr) (s : State) : Host.Outcome State Fault Refusal :=
  match i with
  | .readRamLow addr => Sys2Proof.Machine.execReadRamLow addr s
  | .readControl addr => Sys2Proof.Machine.execReadControl addr s
  | .readMask addr => Sys2Proof.Machine.execReadMask addr s
  | .readStatus addr => Sys2Proof.Machine.execReadStatus addr s
  | .readOamAddr addr => Sys2Proof.Machine.execReadOamAddr addr s
  | .readOamData addr => Sys2Proof.Machine.execReadOamData addr s
  | .readScroll addr => Sys2Proof.Machine.execReadScroll addr s
  | .readVramAddr addr => Sys2Proof.Machine.execReadVramAddr addr s
  | .readVramData addr => Sys2Proof.Machine.execReadVramData addr s
  | .readApu4000 addr => Sys2Proof.Machine.execReadApu4000 addr s
  | .readApu4010 addr => Sys2Proof.Machine.execReadApu4010 addr s
  | .read4014 => Sys2Proof.Machine.execRead4014 s
  | .readApu4015 => Sys2Proof.Machine.execReadApu4015 s
  | .readJoy1 => Sys2Proof.Machine.execReadJoy1 s
  | .readJoy2 => Sys2Proof.Machine.execReadJoy2 s
  | .readRamHigh addr => Sys2Proof.Machine.execReadRamHigh addr s
  | .writeRamLow addr data => Sys2Proof.Machine.execWriteRamLow addr data s
  | .writeControl addr data => Sys2Proof.Machine.execWriteControl addr data s
  | .writeMask addr data => Sys2Proof.Machine.execWriteMask addr data s
  | .writeStatus addr data => Sys2Proof.Machine.execWriteStatus addr data s
  | .writeOamAddr addr data => Sys2Proof.Machine.execWriteOamAddr addr data s
  | .writeOamData addr data => Sys2Proof.Machine.execWriteOamData addr data s
  | .writeScroll addr data => Sys2Proof.Machine.execWriteScroll addr data s
  | .writeVramAddr addr data => Sys2Proof.Machine.execWriteVramAddr addr data s
  | .writeVramData addr data => Sys2Proof.Machine.execWriteVramData addr data s
  | .writeApu4000 addr data => Sys2Proof.Machine.execWriteApu4000 addr data s
  | .writeApu4010 addr data => Sys2Proof.Machine.execWriteApu4010 addr data s
  | .writeOamDma page => Sys2Proof.Machine.execWriteOamDma page s
  | .writeApu4015 data => Sys2Proof.Machine.execWriteApu4015 data s
  | .writeJoyStrobe data => Sys2Proof.Machine.execWriteJoyStrobe data s
  | .writeApu4017 data => Sys2Proof.Machine.execWriteApu4017 data s
  | .writeRamHigh addr data => Sys2Proof.Machine.execWriteRamHigh addr data s
  | .init => Sys2Proof.Machine.execInit s
  | .composeFrame => Sys2Proof.Machine.execComposeFrame s
  | .sampleInput port value => Sys2Proof.Machine.execSampleInput port value s

end Sys2Proof.Machine
end

