-- ==== Sys2Proof/Machine/Step.lean ====
section
/-! DEFINITION. One step: the oldest word the callers have issued is taken and run (spec/10_state.md R23; log 3). -/

namespace Sys2Proof.Machine

/-- Run one operation word: the operation it names, or a refused word (R96, R99). -/
def runWord (w : OpWord) (s : State) : Host.Outcome State Fault Refusal :=
  match decode w with
  | .ok i => exec i s
  | .error _ => refuseWord s

/-- Take the oldest issued word and run it; with none issued the state persists (R23, R312). -/
def step (s : State) : Host.Outcome State Fault Refusal :=
  match s.pending with
  | [] => idle s
  | w :: rest => runWord w (s.setPending rest)

/-- The state with a word issued before all others, so that the next step runs it. The word is given as a number of
`nbits` bits, bits above them 0; an operation word has 26 (R90; log 3, 11). -/
def State.withFetchWord (s : State) (nbits w : Nat) : State :=
  s.issueFirst (BitVec.ofNat 26 (w % 2 ^ nbits))

end Sys2Proof.Machine
end

