-- ==== Sys2Proof/Safety.lean ====
section
/-! DEFINITION. What claims call a good state (the invariant of the machine, the clean run of spec/10_state.md R40), and the
closed forms of pixels that they compare the model with. -/

namespace Sys2Proof

open Sys2Proof.Machine

/-- The invariant every step keeps: memories in canonical form and inside their sizes (R20), shift masks 0 or one-hot
(R37), parameters legal (R9). -/
structure Inv (s : State) : Prop where
  params : s.params.wf
  cpuMem : Memory.wf Config.cpuMemSize s.cpuMem
  vram : Memory.wf Config.vramSize s.vram
  cpuMem0 : Memory.wf Config.cpuMemSize s.cpuMem0
  vram0 : Memory.wf Config.vramSize s.vram0
  masks : ∀ p : Port, maskLegal s.currentBit[p] = true

/-- The bus read that polls a port (R154, R155). -/
def joyRead (p : Port) : Instr := if p = 0 then .readJoy1 else .readJoy2

/-- The mapped address of a bus address as a number (R120). -/
abbrev mapped (a : Addr) : Nat := (addrMap a).toNat

/-- A bit of `control` as a number (R24). -/
def controlField (s : State) (k : Fin 8) : Nat := (s.control.getLsbD k).toNat

/-- The background bank under each setting of `P_BG_BANK` (R201). -/
def bgBankClosed (s : State) : Nat :=
  match s.params.bgBank with
  | .controlBit => controlField s s.params.ctrlBgBankBit
  | .fixed0 => 0
  | .fixed1 => 1

/-- The pixel index two plane bytes give at output column c: the bit of the column (R182) in each, weighed by the plane order
(R181, R183). -/
def indexClosed (p : Params) (planeA planeB : Byte) (flipH : Bool) (c : Nat) : Nat :=
  let k :=
    match p.columnOrder, flipH with
    | .msbLeft, false | .lsbLeft, true => 7 - c
    | .msbLeft, true | .lsbLeft, false => c
  match p.planeOrder with
  | .lowFirst => (planeA.getLsbD k).toNat + 2 * (planeB.getLsbD k).toNat
  | .highFirst => (planeB.getLsbD k).toNat + 2 * (planeA.getLsbD k).toNat

/-- What a tile shows at output row r, column c, from its plane bytes and palette RAM alone: the bytes of the source row (R184),
their pixel index, and transparent or a master colour (R186, R172). -/
def tileClosed (v : VideoView) (addr : Nat) (flipH flipV : Bool) (base r c : Nat) : Pixel :=
  let j := if flipV then 7 - r else r
  let p := indexClosed v.params (v.byte (addr + j)) (v.byte (addr + j + 8)) flipH c
  if p = 0 then .transparent
  else .solid (master v.params ⟨(v.byte (0x3F00 + base + p)).toNat % 64, Nat.mod_lt _ (by decide)⟩)

/-- The composite surface pixel R209 gives in closed form. -/
def compositeClosed (s : State) (x y : Nat) : Colour :=
  let tableAddr := 0x2000 + 0x400 * (x / 256 + 2 * (y / 240))
  let tileX := x % 256 / 8
  let tileY := y % 240 / 8
  (decodeTile s.video (0x1000 * bgBankClosed s + 16 * (s.vramByte (tableAddr + 32 * tileY + tileX)).toNat) false false
    (attrPaletteBase s.video tableAddr tileX tileY) (y % 240 % 8) (x % 256 % 8)).over (universal s.video)

/-- The frame pixel the background pass leaves (R211-R215): wrapped along one axis at most, and an unconstrained
colour in the corner no blit writes (log 5, 10). -/
def backgroundClosed (s : State) (x y : Nat) : Colour :=
  let sx := scrollXEff s
  let sy := scrollYEff s
  if x + sx < 512 then
    if y + sy < 480 then compositeClosed s (x + sx) (y + sy) else compositeClosed s (x + sx) (y + sy - 480)
  else if y + sy < 480 then compositeClosed s (x + sx - 512) (y + sy)
  else unstitchedPixel ((pixelAt s.frame x y).getD default) (s.draws + y * 256 + x)

/-- What record n shows at (x, y), from its four bytes and `control`: position (R237), size (R231), bank and tile in each mode
(R232, R233, R236), palette base (R234), flips (R235). -/
def recordClosed (s : State) (n x y : Nat) : Pixel :=
  let top := (s.oamByte (4 * n)).toNat
  let tile := (s.oamByte (4 * n + 1)).toNat
  let attr := s.oamByte (4 * n + 2)
  let left := (s.oamByte (4 * n + 3)).toNat
  let tall := s.control.getLsbD s.params.ctrlSprSizeBit
  let half := (y - top) / 8
  let addr :=
    if tall then 0x1000 * (tile % 2) + 16 * (tile - tile % 2 + if attr.getLsbD 7 then 1 - half else half)
    else 0x1000 * controlField s s.params.ctrlSprBankBit + 16 * tile
  if left ≤ x ∧ x < left + 8 ∧ top ≤ y ∧ y < top + (if tall then 16 else 8) then
    decodeTile s.video addr (attr.getLsbD 6) (attr.getLsbD 7) (16 + 4 * (attr.toNat % 4)) ((y - top) % 8) (x - left)
  else .transparent

/-- Neither mark is set: "A state with either set is not a final state of any claim" (R40). -/
def Clean (s : State) : Prop := s.refused = false ∧ s.faulted = false

/-- A run of k steps of the machine from s ends in t, each step a next state. -/
inductive Reaches : Nat → State → State → Prop where
  | zero (s : State) : Reaches 0 s s
  | more {k : Nat} {s t u : State} : step s = .next t → Reaches k t u → Reaches (k + 1) s u

end Sys2Proof
end

