-- ==== Sys2Proof/Certificates/Slice0/Obligations.lean ====
section
/-! DEFINITION. What this model claims of the PPU core, each statement from the numbered rules of spec/. Where an
equation `exec i s = .next { s with … }` is stated, it is also the frame: every register, memory byte, latch and
surface not named keeps its value (State's fields are all of the machine). `result` is the byte the operation
returned (log 4), `draws` counts free values (log 5). A rule that the spec marks [derived] or [decision] is the spec's own
inference or choice: a statement or a clause that rests on one names it here, and OBLIGATIONS.json gives it no 'stated' rule. -/

open Sys2Proof Sys2Proof.Machine

/-! ### Encoding -/

/-- The words E1-E7 of spec/95_test_vectors.md 2.2 decode to their operations, and E8-E13 are refused. -/
def Obligations.TableWordsDecode : Prop :=
  decode 0x0000000 = .ok (.readRamLow 0x0000) ∧
  decode 0x0FFFF00 = .ok (.readRamHigh 0xFFFF) ∧
  decode 0x1FFFFFF = .ok (.writeRamHigh 0xFFFF 0xFF) ∧
  decode 0x1345601 = .ok (.writeVramAddr 0x3456 0x01) ∧
  decode 0x2000000 = .ok .init ∧
  decode 0x2010000 = .ok .composeFrame ∧
  decode 0x2020181 = .ok (.sampleInput 1 0x81) ∧
  decode 0x3000000 = .error .reservedKind ∧
  decode 0x0000001 = .error .readDataNotZero ∧
  decode 0x2030000 = .error .reservedHostOp ∧
  decode 0x2000001 = .error .operandNotZero ∧
  decode 0x2010001 = .error .operandNotZero ∧
  decode 0x2020200 = .error .sampleReservedBits

/-- Decoding the word of a well-formed operation gives it back, with every operand (R90, R92, R94, R96, R102). -/
def Obligations.DecodeOfEncodeIsTheOperation : Prop :=
  ∀ i : Instr, i.wellFormed = true → decode (encode i) = .ok i

/-- Each operation is exactly one word: a word that decodes is the encoding of a well-formed operation (R90, R96). -/
def Obligations.EncodeOfDecodeIsTheWord : Prop :=
  ∀ (w : OpWord) (i : Instr), decode w = .ok i → i.wellFormed = true ∧ encode i = w

/-- R99: which words are refused; a refused word changes no hardware state and sets `refused`, which no step clears. -/
def Obligations.RefusedWordsAndTheirMark : Prop :=
  (∀ w : OpWord, (∃ e, decode w = .error e) ↔
    wordKind w = 3 ∨ (wordKind w = 0 ∧ wordData w ≠ 0) ∨ (wordKind w = 2 ∧ 3 ≤ (wordHostOp w).toNat) ∨
    (wordKind w = 2 ∧ (wordHostOp w = 0 ∨ wordHostOp w = 1) ∧ w.extractLsb' 0 16 ≠ 0) ∨
    (wordKind w = 2 ∧ wordHostOp w = 2 ∧ w.extractLsb' 9 7 ≠ 0)) ∧
  (∀ (s : State) (w : OpWord) (rest : List OpWord) (e : DecodeError), s.pending = w :: rest → decode w = .error e →
    step s = .next { s with refused := true, result := none, pending := rest }) ∧
  (∀ s t : State, step s = .next t → s.refused = true → t.refused = true)

/-- R121: the write rule chosen by the mapped address; a BusWrite returns nothing and never fails. -/
def Obligations.BusWriteRuleByMappedAddress : Prop :=
  ∀ (a : Addr) (v : Byte),
    (mapped a < 0x0800 → decode (busWriteWord a v) = .ok (.writeRamLow a v)) ∧
    (mapped a = 0x2000 → decode (busWriteWord a v) = .ok (.writeControl a v)) ∧
    (mapped a = 0x2001 → decode (busWriteWord a v) = .ok (.writeMask a v)) ∧
    (mapped a = 0x2002 → decode (busWriteWord a v) = .ok (.writeStatus a v)) ∧
    (mapped a = 0x2003 → decode (busWriteWord a v) = .ok (.writeOamAddr a v)) ∧
    (mapped a = 0x2004 → decode (busWriteWord a v) = .ok (.writeOamData a v)) ∧
    (mapped a = 0x2005 → decode (busWriteWord a v) = .ok (.writeScroll a v)) ∧
    (mapped a = 0x2006 → decode (busWriteWord a v) = .ok (.writeVramAddr a v)) ∧
    (mapped a = 0x2007 → decode (busWriteWord a v) = .ok (.writeVramData a v)) ∧
    (0x4000 ≤ mapped a → mapped a ≤ 0x400F → decode (busWriteWord a v) = .ok (.writeApu4000 a v)) ∧
    (0x4010 ≤ mapped a → mapped a ≤ 0x4013 → decode (busWriteWord a v) = .ok (.writeApu4010 a v)) ∧
    (mapped a = 0x4014 → decode (busWriteWord a v) = .ok (.writeOamDma v)) ∧
    (mapped a = 0x4015 → decode (busWriteWord a v) = .ok (.writeApu4015 v)) ∧
    (mapped a = 0x4016 → decode (busWriteWord a v) = .ok (.writeJoyStrobe v)) ∧
    (mapped a = 0x4017 → decode (busWriteWord a v) = .ok (.writeApu4017 v)) ∧
    (0x4018 ≤ mapped a → decode (busWriteWord a v) = .ok (.writeRamHigh a v)) ∧
    ∀ s : State, ∃ t, runWord (busWriteWord a v) s = .next t ∧ t.result = none

/-- R122: the read rule chosen by the mapped address; a BusRead returns one byte and never fails. -/
def Obligations.BusReadRuleByMappedAddress : Prop :=
  ∀ a : Addr,
    (mapped a < 0x0800 → decode (busReadWord a) = .ok (.readRamLow a)) ∧
    (mapped a = 0x2000 → decode (busReadWord a) = .ok (.readControl a)) ∧
    (mapped a = 0x2001 → decode (busReadWord a) = .ok (.readMask a)) ∧
    (mapped a = 0x2002 → decode (busReadWord a) = .ok (.readStatus a)) ∧
    (mapped a = 0x2003 → decode (busReadWord a) = .ok (.readOamAddr a)) ∧
    (mapped a = 0x2004 → decode (busReadWord a) = .ok (.readOamData a)) ∧
    (mapped a = 0x2005 → decode (busReadWord a) = .ok (.readScroll a)) ∧
    (mapped a = 0x2006 → decode (busReadWord a) = .ok (.readVramAddr a)) ∧
    (mapped a = 0x2007 → decode (busReadWord a) = .ok (.readVramData a)) ∧
    (0x4000 ≤ mapped a → mapped a ≤ 0x400F → decode (busReadWord a) = .ok (.readApu4000 a)) ∧
    (0x4010 ≤ mapped a → mapped a ≤ 0x4013 → decode (busReadWord a) = .ok (.readApu4010 a)) ∧
    (mapped a = 0x4014 → decode (busReadWord a) = .ok .read4014) ∧
    (mapped a = 0x4015 → decode (busReadWord a) = .ok .readApu4015) ∧
    (mapped a = 0x4016 → decode (busReadWord a) = .ok .readJoy1) ∧
    (mapped a = 0x4017 → decode (busReadWord a) = .ok .readJoy2) ∧
    (0x4018 ≤ mapped a → decode (busReadWord a) = .ok (.readRamHigh a)) ∧
    ∀ s : State, ∃ (t : State) (b : Byte), runWord (busReadWord a) s = .next t ∧ t.result = some b

/-- The table's rows and the dispatch functions `BusRead` and `BusWrite` are one selection (R121, R122): running a bus
word is the bus operation. OAM DMA under `Mapped` reads through the same function (R146). -/
def Obligations.BusWordsRunTheBusOperations : Prop :=
  ∀ (a : Addr) (v : Byte) (s : State),
    runWord (busReadWord a) s = .next { (busRead a s).1 with result := some (busRead a s).2 } ∧
    runWord (busWriteWord a v) s = .next { busWrite a v s with result := none }

/-! ### The step -/

/-- A step takes the oldest issued word and runs the operation it decodes to, at the state without that word (R23;
the list of issued words is the model's own, log 3). With no word issued the state persists (R312). -/
def Obligations.StepRunsTheDecodedOperation : Prop :=
  (∀ (s : State) (w : OpWord) (rest : List OpWord) (i : Instr), s.pending = w :: rest → decode w = .ok i →
    step s = exec i { s with pending := rest }) ∧
  ∀ s : State, s.pending = [] → step s = .next s

/-- Every operation completes in every state, and every step answers a next state (R300; also on operands no word
encodes, and idle or on a refused word by the model's choice, log 3, 7, 9). -/
def Obligations.EveryOperationCompletes : Prop :=
  (∀ (i : Instr) (s : State), ∃ t, exec i s = .next t) ∧ ∀ s : State, ∃ t, step s = .next t

/-- R169: bus reads and writes are total over all addresses and data, and set the fault mark only under
`P_VRAM_INDEX = Fault` with `vramAddr` past the store. -/
def Obligations.BusOperationsNeverFail : Prop :=
  ∀ (a : Addr) (v : Byte) (s : State),
    (∃ (t : State) (b : Byte), runWord (busReadWord a) s = .next t ∧ t.result = some b ∧
      (t.faulted ≠ s.faulted → s.params.vramIndex = .fault ∧ 0x4000 ≤ s.vramAddr.toNat)) ∧
    (∃ t : State, runWord (busWriteWord a v) s = .next t ∧
      (t.faulted ≠ s.faulted → s.params.vramIndex = .fault ∧ 0x4000 ≤ s.vramAddr.toNat))

/-- R120, and the consequences the spec draws from it in R168 [derived from R120, R130, R150]: a read of a RAM mirror returns what was last written to any of
its mirrors; addresses of one register slot run the same rule. -/
def Obligations.AddressMirrors : Prop :=
  (∀ a : Addr, a.toNat < 0x2000 → mapped a = a.toNat % 0x800) ∧
  (∀ a : Addr, 0x2000 ≤ a.toNat → a.toNat < 0x4000 → mapped a = 0x2000 + a.toNat % 0x2000 % 8) ∧
  (∀ a : Addr, 0x4000 ≤ a.toNat → addrMap a = a) ∧ (∀ a : Addr, addrMap (addrMap a) = addrMap a) ∧
  (∀ (a a' : Addr) (v : Byte) (s t : State), a.toNat < 0x2000 → a'.toNat % 0x800 = a.toNat % 0x800 →
    a'.toNat < 0x2000 → runWord (busWriteWord a' v) s = .next t →
    ∃ u, runWord (busReadWord a) t = .next u ∧ u.result = some v) ∧
  (∀ (a a' : Addr) (v : Byte) (s : State), 0x2000 ≤ a.toNat → a.toNat < 0x4000 → 0x2000 ≤ a'.toNat →
    a'.toNat < 0x4000 → a.toNat % 8 = a'.toNat % 8 →
    runWord (busReadWord a) s = runWord (busReadWord a') s ∧
    runWord (busWriteWord a v) s = runWord (busWriteWord a' v) s)

/-! ### Bus reads -/

/-- R158 (the spec's decisions D22 and D29), to which R157 and R160-R167 point: the unimplemented reads return 0 and append one
event at the mapped address; nothing else. -/
def Obligations.UnimplementedReadsAnswerZero : Prop :=
  ∀ (s : State) (a : Addr),
    (inSlot 0 a = true → exec (.readControl a) s =
      .next { s with diag := s.diag ++ [⟨.read, 0x2000⟩], result := some 0x00 }) ∧
    (inSlot 1 a = true → exec (.readMask a) s =
      .next { s with diag := s.diag ++ [⟨.read, 0x2001⟩], result := some 0x00 }) ∧
    (inSlot 3 a = true → exec (.readOamAddr a) s =
      .next { s with diag := s.diag ++ [⟨.read, 0x2003⟩], result := some 0x00 }) ∧
    (inSlot 4 a = true → exec (.readOamData a) s =
      .next { s with diag := s.diag ++ [⟨.read, 0x2004⟩], result := some 0x00 }) ∧
    (inSlot 5 a = true → exec (.readScroll a) s =
      .next { s with diag := s.diag ++ [⟨.read, 0x2005⟩], result := some 0x00 }) ∧
    (inSlot 6 a = true → exec (.readVramAddr a) s =
      .next { s with diag := s.diag ++ [⟨.read, 0x2006⟩], result := some 0x00 }) ∧
    (inApu4000 a = true → exec (.readApu4000 a) s =
      .next { s with diag := s.diag ++ [⟨.read, a⟩], result := some 0x00 }) ∧
    (inApu4010 a = true → exec (.readApu4010 a) s =
      .next { s with diag := s.diag ++ [⟨.read, a⟩], result := some 0x00 }) ∧
    exec .readApu4015 s = .next { s with diag := s.diag ++ [⟨.read, 0x4015⟩], result := some 0x00 }

/-- R159: a read of 0x4014 under each value of `P_READ_4014`. -/
def Obligations.ReadOfDmaPort : Prop :=
  ∀ s : State,
    (s.params.read4014 = .zero → exec .read4014 s =
      .next { s with diag := s.diag ++ [⟨.read, 0x4014⟩], result := some 0x00 }) ∧
    (s.params.read4014 = .ram → exec .read4014 s = .next { s with result := some (s.cpuMem.read 0x4014) })

/-- R150, R156: RAM reads return the byte, of internal RAM at the address modulo 0x800; no state changes. -/
def Obligations.RamReadsReturnTheByte : Prop :=
  ∀ (s : State) (a : Addr),
    (a.toNat < 0x2000 → exec (.readRamLow a) s = .next { s with result := some (s.cpuMem.read (a.toNat % 0x800)) }) ∧
    (0x4018 ≤ a.toNat → exec (.readRamHigh a) s = .next { s with result := some (s.cpuMem.read a.toNat) })

/-- R151, R152: the status read returns the register, or under `Draw` any byte (the next free value); it clears nothing.
The numbering of free values is the model's (log 5). -/
def Obligations.StatusReadHasNoSideEffect : Prop :=
  ∀ (s : State) (a : Addr),
    (s.params.statusSource = .constant → exec (.readStatus a) s = .next { s with result := some s.status }) ∧
    (s.params.statusSource = .draw → exec (.readStatus a) s =
      .next { s with result := some (Config.drawByte s.draws), draws := s.draws + 1 })

/-- R153 with R61: the VRAM data read returns the byte at once, `vramAddr` unchanged; under `Fault` past the store, it
sets the mark and returns a free value (its numbering is the model's, log 5). -/
def Obligations.VramDataRead : Prop :=
  ∀ (s : State) (a : Addr),
    (s.params.vramIndex = .mod16K → exec (.readVramData a) s =
      .next { s with result := some (s.vram.read (s.vramAddr.toNat % 0x4000)) }) ∧
    (s.params.vramIndex = .fault → s.vramAddr.toNat < 0x4000 → exec (.readVramData a) s =
      .next { s with result := some (s.vram.read s.vramAddr.toNat) }) ∧
    (s.params.vramIndex = .fault → 0x4000 ≤ s.vramAddr.toNat → exec (.readVramData a) s =
      .next { s with result := some (Config.drawByte s.draws), draws := s.draws + 1, faulted := true })

/-! ### Bus writes -/

/-- R130, and R139 (the spec's decision D34 that memory above 0x4018 is flat): a RAM write stores its byte, of
internal RAM at the address modulo 0x800; every other byte of `cpuMem` and every other field keeps its value. -/
def Obligations.RamWritesStoreOneByte : Prop :=
  ∀ (s : State) (a : Addr) (v : Byte),
    (a.toNat < 0x2000 → ∃ t, exec (.writeRamLow a v) s = .next t ∧ t.cpuMem.read (a.toNat % 0x800) = v ∧
      (∀ k, k ≠ a.toNat % 0x800 → t.cpuMem.read k = s.cpuMem.read k) ∧
      { t with cpuMem := s.cpuMem } = { s with result := none }) ∧
    (0x4018 ≤ a.toNat → ∃ t, exec (.writeRamHigh a v) s = .next t ∧ t.cpuMem.read a.toNat = v ∧
      (∀ k, k ≠ a.toNat → t.cpuMem.read k = s.cpuMem.read k) ∧
      { t with cpuMem := s.cpuMem } = { s with result := none })

/-- R131, R132, R133: a write of `control`, `mask` or `oamAddr` stores the byte in it and changes nothing else. -/
def Obligations.RegisterWritesStoreTheByte : Prop :=
  ∀ (s : State) (a : Addr) (v : Byte),
    exec (.writeControl a v) s = .next { s with control := v, result := none } ∧
    exec (.writeMask a v) s = .next { s with mask := v, result := none } ∧
    exec (.writeOamAddr a v) s = .next { s with oamAddr := v, result := none }

/-- R141 (the spec's decision D29), to which R140, R143, R144, R148, R149 and R142 (its decision D21 for the scroll port) point:
the dropped writes append one event at the mapped address; nothing else. -/
def Obligations.DroppedWritesOnlyDiagnose : Prop :=
  ∀ (s : State) (a : Addr) (v : Byte),
    (inSlot 2 a = true → exec (.writeStatus a v) s =
      .next { s with diag := s.diag ++ [⟨.write, 0x2002⟩], result := none }) ∧
    (inSlot 5 a = true → exec (.writeScroll a v) s =
      .next { s with diag := s.diag ++ [⟨.write, 0x2005⟩], result := none }) ∧
    (inApu4000 a = true → exec (.writeApu4000 a v) s =
      .next { s with diag := s.diag ++ [⟨.write, a⟩], result := none }) ∧
    (inApu4010 a = true → exec (.writeApu4010 a v) s =
      .next { s with diag := s.diag ++ [⟨.write, a⟩], result := none }) ∧
    exec (.writeApu4015 v) s = .next { s with diag := s.diag ++ [⟨.write, 0x4015⟩], result := none } ∧
    exec (.writeApu4017 v) s = .next { s with diag := s.diag ++ [⟨.write, 0x4017⟩], result := none }

/-- R134: the OAM data write stores at `oamAddr`, which then increments modulo 256; no other OAM byte or field changes. -/
def Obligations.OamDataWriteAndIncrement : Prop :=
  ∀ (s : State) (a : Addr) (v : Byte), ∃ t, exec (.writeOamData a v) s = .next t ∧
    t.oamByte s.oamAddr.toNat = v ∧ (∀ i, i ≠ s.oamAddr.toNat → t.oamByte i = s.oamByte i) ∧
    t.oamAddr.toNat = (s.oamAddr.toNat + 1) % 256 ∧
    { t with oam := s.oam, oamAddr := s.oamAddr } = { s with result := none }

/-- R338: writing 256 bytes through the OAM data port from any start fills all of OAM once and leaves `oamAddr` where it
began. -/
def Obligations.OamPortFillsOam : Prop :=
  ∀ (s : State) (a : Addr) (ds : List Byte), mapped a = 0x2004 → ds.length = 256 →
    s.pending = ds.map (busWriteWord a) →
    ∃ t, Reaches 256 s t ∧ t.oamAddr = s.oamAddr ∧
      ∀ (i : Nat) (h : i < ds.length), t.oamByte ((s.oamAddr.toNat + i) % 256) = ds[i]

/-- R135: one byte of `vramAddr` by the latch, the other kept, and the latch flips; nothing else changes. -/
def Obligations.VramAddrWriteByLatch : Prop :=
  ∀ (s : State) (a : Addr) (v : Byte),
    (s.writeLatch = false → exec (.writeVramAddr a v) s =
      .next { s with vramAddr := v ++ s.vramAddr.extractLsb' 0 8, writeLatch := true, result := none }) ∧
    (s.writeLatch = true → exec (.writeVramAddr a v) s =
      .next { s with vramAddr := s.vramAddr.extractLsb' 8 8 ++ v, writeLatch := false, result := none })

/-- R63, R331: two writes of the address port, high then low, give `(first << 8) | second` and put the latch back on the
high byte. -/
def Obligations.TwoVramAddrWritesMakeTheAddress : Prop :=
  ∀ (s : State) (a b : Addr) (hi lo : Byte) (rest : List OpWord), mapped a = 0x2006 → mapped b = 0x2006 →
    s.writeLatch = false → s.pending = busWriteWord a hi :: busWriteWord b lo :: rest →
    ∃ t, Reaches 2 s t ∧ t = { s with vramAddr := hi ++ lo, result := none, pending := rest }

/-- R136 with R61: the VRAM data write stores one byte of VideoMemory and changes nothing else; under `Fault` past the
store, it only sets the mark. -/
def Obligations.VramDataWriteStoresOneByte : Prop :=
  ∀ (s : State) (a : Addr) (v : Byte),
    (s.params.vramIndex = .mod16K ∨ s.vramAddr.toNat < 0x4000 →
      ∃ t, exec (.writeVramData a v) s = .next t ∧ t.vram.read (s.vramAddr.toNat % 0x4000) = v ∧
      (∀ k, k ≠ s.vramAddr.toNat % 0x4000 → t.vram.read k = s.vram.read k) ∧
      { t with vram := s.vram } = { s with result := none }) ∧
    (s.params.vramIndex = .fault → 0x4000 ≤ s.vramAddr.toNat → exec (.writeVramData a v) s =
      .next { s with faulted := true, result := none })

/-- R330: an access of the VRAM data port does not move `vramAddr`: after two writes the second byte is what both of two
reads return. -/
def Obligations.VramAddressNeverIncrements : Prop :=
  ∀ (s : State) (a : Addr) (v w : Byte) (rest : List OpWord), mapped a = 0x2007 →
    s.params.vramIndex = .mod16K ∨ s.vramAddr.toNat < 0x4000 →
    s.pending = busWriteWord a v :: busWriteWord a w :: busReadWord a :: busReadWord a :: rest →
    ∃ t u, Reaches 3 s t ∧ step t = .next u ∧ t.result = some w ∧ u.result = some w ∧ u.vramAddr = s.vramAddr ∧
      ∀ k, k ≠ s.vramAddr.toNat % 0x4000 → u.vram.read k = s.vram.read k

/-- R137, R334 with R146 under `Raw`: OAM DMA copies the page of the store into OAM from index 0, whatever `oamAddr`
holds, and changes nothing else. -/
def Obligations.OamDmaRawCopiesThePage : Prop :=
  ∀ (s : State) (page : Byte), s.params.dmaSource = .raw →
    ∃ t, exec (.writeOamDma page) s = .next t ∧
      (∀ i, i < 256 → t.oamByte i = s.cpuMem.read (page.toNat * 256 + i)) ∧
      { t with oam := s.oam } = { s with result := none }

/-- R137 with R146 under `Mapped`: byte i is what the i-th of 256 bus reads in order returns, and the rest of the state is
what those reads leave. -/
def Obligations.OamDmaMappedReadsTheBus : Prop :=
  ∀ (s : State) (page : Byte), s.params.dmaSource = .mapped →
    ∃ t, exec (.writeOamDma page) s = .next t ∧
      (∀ i, i < 256 → t.oamByte i =
        (busRead (dmaAddr page i) ((List.range i).foldl (fun u j => (busRead (dmaAddr page j) u).1) s)).2) ∧
      { t with oam := s.oam } =
        { (List.range 256).foldl (fun u j => (busRead (dmaAddr page j) u).1) s with result := none }

/-- R145: for pages 0x00-0x07 and 0x41-0xFF, OAM DMA gives `oam[i] = cpuMem[(P << 8) + i]` under both values of
`P_DMA_SOURCE`. -/
def Obligations.OamDmaSourcesAgree : Prop :=
  ∀ (s : State) (page : Byte), page.toNat ≤ 0x07 ∨ 0x41 ≤ page.toNat →
    ∃ t, exec (.writeOamDma page) s = .next t ∧
      (∀ i, i < 256 → t.oamByte i = s.cpuMem.read (page.toNat * 256 + i)) ∧
      { t with oam := s.oam } = { s with result := none }

/-! ### Controller -/

/-- R138, R147: a write of 0x4016 sets the latch to bit 0 of the data, and under `OnLatchWrite` a 1 also clears both shift
masks; nothing else changes. -/
def Obligations.StrobeWriteSetsTheLatch : Prop :=
  ∀ (s : State) (v : Byte),
    (s.params.strobeReset ≠ .onLatchWrite ∨ v.getLsbD 0 = false → exec (.writeJoyStrobe v) s =
      .next { s with controllerLatch := v.getLsbD 0, result := none }) ∧
    (s.params.strobeReset = .onLatchWrite → v.getLsbD 0 = true → ∃ t, exec (.writeJoyStrobe v) s = .next t ∧
      (∀ p : Port, t.currentBit[p] = 0) ∧
      { t with currentBit := s.currentBit } = { s with controllerLatch := true, result := none })

/-- R251: while strobed, a poll of either port returns 0 whatever the buttons, and changes no state; under `OnStrobedPoll` (R252,
the spec's decision D25) the port's shift mask becomes 0 and nothing else changes. -/
def Obligations.StrobedPollReturnsZero : Prop :=
  ∀ (s : State) (p : Port), s.controllerLatch = true →
    (s.params.strobeReset ≠ .onStrobedPoll → exec (joyRead p) s = .next { s with result := some 0x00 }) ∧
    (s.params.strobeReset = .onStrobedPoll → exec (joyRead p) s =
      .next { s with currentBit := s.currentBit.set p.val 0 p.isLt, result := some 0x00 })

/-- R259, the shifting rows: from mask 0 the poll returns bit 7 and leaves 0x40; from mask 2^k with k at least 1 it returns
bit k and leaves 2^(k-1); from mask 1 it returns bit 0 and leaves 0. Only the port's mask changes (R253, R254). -/
def Obligations.ShiftingPollTransitions : Prop :=
  ∀ (s : State) (p : Port), s.controllerLatch = false →
    (s.currentBit[p] = 0 → exec (joyRead p) s =
      .next { s with currentBit := s.currentBit.set p.val 0x40 p.isLt,
                     result := some (if s.buttons[p].getLsbD 7 then 0x01 else 0x00) }) ∧
    (∀ k : Fin 7, s.currentBit[p] = BitVec.twoPow 8 (k.val + 1) → exec (joyRead p) s =
      .next { s with currentBit := s.currentBit.set p.val (BitVec.twoPow 8 k.val) p.isLt,
                     result := some (if s.buttons[p].getLsbD (k.val + 1) then 0x01 else 0x00) }) ∧
    (s.currentBit[p] = 1 → exec (joyRead p) s =
      .next { s with currentBit := s.currentBit.set p.val 0 p.isLt,
                     result := some (if s.buttons[p].getLsbD 0 then 0x01 else 0x00) })

/-- R255: shifting with the mask at 0x00 or 0x80, eight polls return bits 7 down to 0 of `buttons` and leave the mask 0;
the ninth wraps back to bit 7. -/
def Obligations.EightPollsReadTheButtons : Prop :=
  ∀ (s : State) (p : Port), s.controllerLatch = false → s.currentBit[p] = 0x00 ∨ s.currentBit[p] = 0x80 →
    s.pending = List.replicate 9 (encode (joyRead p)) →
    (∀ k, k < 9 → ∃ t u, Reaches k s t ∧ step t = .next u ∧
      u.result = some (if s.buttons[p].getLsbD ((15 - k) % 8) then 0x01 else 0x00)) ∧
    ∃ t, Reaches 8 s t ∧ t.currentBit[p] = 0

/-- R257: a poll reads and writes only its own port's buttons and mask, besides the latch both share: its answer and new
mask do not depend on the other port, whose mask it leaves alone. -/
def Obligations.PortsAreIndependent : Prop :=
  ∀ (s s' t t' : State) (p : Port), s.controllerLatch = s'.controllerLatch →
    s.params.strobeReset = s'.params.strobeReset → s.buttons[p] = s'.buttons[p] → s.currentBit[p] = s'.currentBit[p] →
    exec (joyRead p) s = .next t → exec (joyRead p) s' = .next t' →
    t.result = t'.result ∧ t.currentBit[p] = t'.currentBit[p] ∧
    (∀ q : Port, q ≠ p → t.currentBit[q] = s.currentBit[q]) ∧ t.buttons = s.buttons

/-- R272: SAMPLE_INPUT replaces the buttons of its port and nothing else. -/
def Obligations.SampleInputSetsTheButtons : Prop :=
  ∀ (s : State) (p : Port) (v : Byte), ∃ t, exec (.sampleInput p v) s = .next t ∧ t.buttons[p] = v ∧
    (∀ q : Port, q ≠ p → t.buttons[q] = s.buttons[q]) ∧ { t with buttons := s.buttons } = { s with result := none }

/-- R256 with R253: buttons are read live: a sample between two polls decides what the later poll returns, at the bit the shift
mask stands on, bit 7 where it is 0 and the readout starts again. -/
def Obligations.ButtonsAreReadLive : Prop :=
  ∀ (s t u : State) (p : Port) (v : Byte), s.controllerLatch = false →
    exec (.sampleInput p v) s = .next t → exec (joyRead p) t = .next u →
    u.result = some (if v &&& (if s.currentBit[p] = 0 then 0x80 else s.currentBit[p]) = 0 then 0x00 else 0x01)

/-! ### Host operations and reset -/

/-- R320 with R41: the launch state, for every launch memory, scroll and parameter record: memories and scroll as launched, every
other field at the value of R41, which is the spec's decision D3 (log 13); the surfaces are free and not stated. Then the same at
reset, where the memories' contents, the scroll and the parameters are the model's (log 2, 12). -/
def Obligations.ResetValues : Prop :=
  (∀ (params : Params) (cpuMem0 vram0 : Memory) (scrollX0 scrollY0 : Byte),
    let s := State.launch params cpuMem0 vram0 scrollX0 scrollY0
    s.params = params ∧ s.cpuMem = cpuMem0 ∧ s.vram = vram0 ∧ s.cpuMem0 = cpuMem0 ∧ s.vram0 = vram0 ∧
    s.scrollX = scrollX0 ∧ s.scrollY = scrollY0 ∧
    s.control = 0 ∧ s.mask = 0 ∧ s.status = 0 ∧ s.oamAddr = 0 ∧ s.vramAddr = 0 ∧ s.writeLatch = false ∧
    (∀ p : Port, s.buttons[p] = 0 ∧ s.currentBit[p] = 0) ∧ s.controllerLatch = false ∧
    (∀ i, i < 256 → s.oamByte i = 0) ∧ s.diag = [] ∧ Clean s) ∧
  State.reset = State.launch defaultParams [] [] 0 0 ∧
  State.reset.control = 0 ∧ State.reset.mask = 0 ∧ State.reset.status = 0 ∧ State.reset.oamAddr = 0 ∧
  State.reset.vramAddr = 0 ∧ State.reset.writeLatch = false ∧ State.reset.scrollX = 0 ∧ State.reset.scrollY = 0 ∧
  (∀ p : Port, State.reset.buttons[p] = 0 ∧ State.reset.currentBit[p] = 0) ∧ State.reset.controllerLatch = false ∧
  (∀ i, i < 256 → State.reset.oamByte i = 0) ∧ State.reset.diag = [] ∧ Clean State.reset

/-- R270, R322: INIT restores the launch memories, clears every register, OAM, the controller state and the diagnostics,
and sets the scroll to 0, from any state; the marks stay (R40). The surfaces it draws are free and not stated. -/
def Obligations.InitRestoresTheLaunchState : Prop :=
  ∀ s : State, ∃ t, exec .init s = .next t ∧
    t.control = 0 ∧ t.mask = 0 ∧ t.status = 0 ∧ t.oamAddr = 0 ∧ t.vramAddr = 0 ∧ t.writeLatch = false ∧
    t.scrollX = 0 ∧ t.scrollY = 0 ∧ (∀ i, i < 256 → t.oamByte i = 0) ∧
    (∀ p : Port, t.buttons[p] = 0 ∧ t.currentBit[p] = 0) ∧ t.controllerLatch = false ∧
    t.cpuMem = s.cpuMem0 ∧ t.vram = s.vram0 ∧ t.diag = [] ∧ t.refused = s.refused ∧ t.faulted = s.faulted ∧
    t.params = s.params ∧ t.cpuMem0 = s.cpuMem0 ∧ t.vram0 = s.vram0 ∧ t.pending = s.pending

/-- R271, what a composition writes: from every state COMPOSE_FRAME completes and changes no register, memory, OAM,
controller or diagnostic field; only the two surfaces (and the model's count of free values). -/
def Obligations.ComposeFrameWritesOnlySurfaces : Prop :=
  ∀ s : State, ∃ t, exec .composeFrame s = .next t ∧
    { t with composite := s.composite, frame := s.frame, draws := s.draws } = { s with result := none }

/-! ### Tiles -/

/-- R190: the flip laws of the tile decoder, under every plane and column order. -/
def Obligations.TileFlipsMirror : Prop :=
  ∀ (v : VideoView) (addr base r c : Nat), r < 8 → c < 8 →
    decodeTile v addr true false base r c = decodeTile v addr false false base r (7 - c) ∧
    decodeTile v addr false true base r c = decodeTile v addr false false base (7 - r) c ∧
    decodeTile v addr true true base r c = decodeTile v addr false false base (7 - r) (7 - c)

/-- R187, R191: decoding reads only the tile's sixteen bytes, the palette RAM and the parameters. -/
def Obligations.TileReadsOnlyItsBytes : Prop :=
  ∀ (v w : VideoView) (addr base r c : Nat) (flipH flipV : Bool), r < 8 → c < 8 → v.params = w.params →
    (∀ k, k < 16 → v.byte (addr + k) = w.byte (addr + k)) → (∀ k, k < 32 → v.byte (0x3F00 + k) = w.byte (0x3F00 + k)) →
    decodeTile v addr flipH flipV base r c = decodeTile w addr flipH flipV base r c

/-- The whole decode of one pixel (R187), for any plane bytes, under either plane order (R181, R183), either column order (R182),
both flips (R184) and every palette base (R186, R172), is `tileClosed`. Its corner cases: a row of zero bytes is transparent in
every column, and one of two 0xFF bytes shows palette entry base + 3; bytes 0xFF and 0x00 show entry base + 1 under `LowFirst` and
base + 2 under `HighFirst`, 0x00 and 0xFF the other one; a row with bit k of plane A alone set is opaque in one column, which the
column order and the horizontal flip decide. -/
def Obligations.TileRowCorners : Prop :=
  ∀ (v : VideoView) (addr r c : Nat) (flipH flipV : Bool) (sub : Fin 4) (half : Fin 2), r < 8 → c < 8 →
    decodeTile v addr flipH flipV (half.val * 16 + sub.val * 4) r c =
      tileClosed v addr flipH flipV (half.val * 16 + sub.val * 4) r c ∧
    (v.byte (addr + srcRow r flipV) = 0 → v.byte (addr + srcRow r flipV + 8) = 0 →
      decodeTile v addr flipH flipV (half.val * 16 + sub.val * 4) r c = .transparent) ∧
    (v.byte (addr + srcRow r flipV) = 0xFF → v.byte (addr + srcRow r flipV + 8) = 0xFF →
      decodeTile v addr flipH flipV (half.val * 16 + sub.val * 4) r c =
        .solid (resolve v (half.val * 16 + sub.val * 4 + 3))) ∧
    (v.byte (addr + srcRow r flipV) = 0xFF → v.byte (addr + srcRow r flipV + 8) = 0 →
      (v.params.planeOrder = .lowFirst → decodeTile v addr flipH flipV (half.val * 16 + sub.val * 4) r c =
        .solid (resolve v (half.val * 16 + sub.val * 4 + 1))) ∧
      (v.params.planeOrder = .highFirst → decodeTile v addr flipH flipV (half.val * 16 + sub.val * 4) r c =
        .solid (resolve v (half.val * 16 + sub.val * 4 + 2)))) ∧
    (v.byte (addr + srcRow r flipV) = 0 → v.byte (addr + srcRow r flipV + 8) = 0xFF →
      (v.params.planeOrder = .lowFirst → decodeTile v addr flipH flipV (half.val * 16 + sub.val * 4) r c =
        .solid (resolve v (half.val * 16 + sub.val * 4 + 2))) ∧
      (v.params.planeOrder = .highFirst → decodeTile v addr flipH flipV (half.val * 16 + sub.val * 4) r c =
        .solid (resolve v (half.val * 16 + sub.val * 4 + 1)))) ∧
    ∀ k : Fin 8, v.byte (addr + srcRow r flipV) = BitVec.twoPow 8 k → v.byte (addr + srcRow r flipV + 8) = 0 →
      (v.params.columnOrder = .msbLeft →
        (decodeTile v addr flipH flipV (half.val * 16 + sub.val * 4) r c ≠ .transparent ↔
          c = if flipH then k.val else 7 - k.val)) ∧
      (v.params.columnOrder = .lsbLeft →
        (decodeTile v addr flipH flipV (half.val * 16 + sub.val * 4) r c ≠ .transparent ↔
          c = if flipH then 7 - k.val else k.val))

/-! ### Background -/

/-- R209 with R201: the composite surface after a composition, in closed form, its pattern bank the bit of `control` that
`P_CTRL_BG_BANK_BIT` names under `ControlBit`, 0 under `Fixed0` and 1 under `Fixed1`; its previous contents never show. -/
def Obligations.CompositeClosedForm : Prop :=
  ∀ (s t : State) (x y : Nat), exec .composeFrame s = .next t → x < 512 → y < 480 →
    pixelAt t.composite x y = some (compositeClosed s x y)

/-- The composite surface a composition makes is what the tile walk of R202, R205 and R206 draws over the cleared surface
(R207, R208), pixel by pixel. -/
def Obligations.CompositeIsTheTileWalk : Prop :=
  ∀ (s t : State) (x y : Nat), exec .composeFrame s = .next t → x < 512 → y < 480 →
    pixelAt t.composite x y = some (compositeWalk s.video (bgBank s) x y)

/-- R203, R204, and R219 which the spec derives from them, for every tile of a table: the four tiles of a 2x2 quadrant share the
2-bit field of the attribute byte that their quadrant of the 4x4 cell selects; attribute row 7 serves tile rows 28 and 29. -/
def Obligations.AttributeQuadrants : Prop :=
  ∀ (v : VideoView) (tableAddr attribX attribY : Nat) (h w i j : Fin 2), attribX < 8 → attribY < 8 →
    4 * attribY + 2 * w.val + j.val < 30 →
    attrPaletteBase v tableAddr (4 * attribX + 2 * h.val + i.val) (4 * attribY + 2 * w.val + j.val) =
      4 * ((v.byte (tableAddr + 960 + (attribY * 8 + attribX))).toNat / 4 ^ (h.val + 2 * w.val) % 4)

/-- R210: the effective scroll is the scroll register, and 256 columns or 240 rows more where the nametable select bit of
`control` is set. R211-R214, R218: after a composition, a frame pixel no sprite shows at is the composite pixel at the scrolled
position, wrapped over the bottom edge or over the right edge, never over both. -/
def Obligations.ViewportWrapsOverOneEdge : Prop :=
  (∀ s : State, scrollXEff s = s.scrollX.toNat + 256 * controlField s s.params.ctrlNtxBit ∧
    scrollYEff s = s.scrollY.toNat + 240 * controlField s s.params.ctrlNtyBit) ∧
  ∀ (s t : State) (x y : Nat), exec .composeFrame s = .next t → x < 256 → y < 240 →
    (∀ n, n < 64 → recordPixel s.video s (spriteRecord s n) x y = .transparent) →
    (x + scrollXEff s < 512 → y + scrollYEff s < 480 →
      pixelAt t.frame x y = pixelAt t.composite (x + scrollXEff s) (y + scrollYEff s)) ∧
    (x + scrollXEff s < 512 → 480 ≤ y + scrollYEff s →
      pixelAt t.frame x y = pixelAt t.composite (x + scrollXEff s) (y + scrollYEff s - 480)) ∧
    (512 ≤ x + scrollXEff s → y + scrollYEff s < 480 →
      pixelAt t.frame x y = pixelAt t.composite (x + scrollXEff s - 512) (y + scrollYEff s))

/-- R217: with the scroll registers 0, a frame pixel no sprite shows at is that of one quadrant of the composite surface, the
one the nametable select bits of `control` name. -/
def Obligations.UnscrolledFrameIsOneQuadrant : Prop :=
  ∀ (s t : State) (x y : Nat), exec .composeFrame s = .next t → s.scrollX = 0 → s.scrollY = 0 → x < 256 → y < 240 →
    (∀ n, n < 64 → recordPixel s.video s (spriteRecord s n) x y = .transparent) →
    pixelAt t.frame x y = pixelAt t.composite (x + 256 * (s.control.getLsbD s.params.ctrlNtxBit).toNat)
      (y + 240 * (s.control.getLsbD s.params.ctrlNtyBit).toNat)

/-- R173 with R207: where every pattern table byte is 0, every frame pixel a blit writes is the universal colour, the master
colour of palette RAM entry 0. -/
def Obligations.EmptyPatternsShowTheUniversalColour : Prop :=
  ∀ (s t : State) (x y : Nat), exec .composeFrame s = .next t → x < 256 → y < 240 →
    (∀ k, k < 0x2000 → s.vramByte k = 0) → x + scrollXEff s < 512 ∨ y + scrollYEff s < 480 →
    ∀ j : Fin 64, j.val = (s.vramByte 0x3F00).toNat % 64 → pixelAt t.frame x y = some (master s.params j)

/-- R274 with R171: a composition leaves no transparent pixel: every composite pixel, and every frame pixel outside the corner
no blit writes, is an opaque master colour. R215: in the corner a frame pixel is a sprite's master colour, the colour carried over
from the frame before, or an unconstrained colour, one number of the model's free values to each pixel (log 5, 10). -/
def Obligations.ComposedPixelsAreOpaque : Prop :=
  ∀ s t : State, exec .composeFrame s = .next t →
    (∀ x y, x < 512 → y < 480 → ∃ j : Fin 64,
      pixelAt t.composite x y = some (master s.params j) ∧ (master s.params j).a = 0xFF) ∧
    (∀ x y, x < 256 → y < 240 → x + scrollXEff s < 512 ∨ y + scrollYEff s < 480 → ∃ j : Fin 64,
      pixelAt t.frame x y = some (master s.params j) ∧ (master s.params j).a = 0xFF) ∧
    ∀ x y, x < 256 → y < 240 → 512 ≤ x + scrollXEff s → 480 ≤ y + scrollYEff s →
      (∃ j : Fin 64, pixelAt t.frame x y = some (master s.params j) ∧ (master s.params j).a = 0xFF) ∨
      pixelAt t.frame x y = pixelAt s.frame x y ∨
      pixelAt t.frame x y = some (Config.drawColour (s.draws + 256 * y + x))

/-! ### Sprites and the frame -/

/-- What a record shows at a pixel, from its bytes and `control`: bank and tile in 8x8 mode (R232) and in 8x16 mode (R233, R236),
palette base (R234), flips (R235), position (R237). R230, and R242 [derived from it]: after a composition a frame pixel is that
of the largest record with an opaque pixel there, and the background pass's value (R211-R215, the spec's decisions D14 and D15)
where no record has one; in the corner no blit writes that value is free, by the model's numbering (log 5, 10). -/
def Obligations.HighestOpaqueSpriteShows : Prop :=
  (∀ (s : State) (n x y : Nat), n < 64 → recordPixel s.video s (spriteRecord s n) x y = recordClosed s n x y) ∧
  ∀ (s t : State) (x y : Nat), exec .composeFrame s = .next t → x < 256 → y < 240 →
    ((∀ n, n < 64 → recordPixel s.video s (spriteRecord s n) x y = .transparent) →
      pixelAt t.frame x y = some (backgroundClosed s x y)) ∧
    (∀ (n : Nat) (c : Colour), n < 64 → recordPixel s.video s (spriteRecord s n) x y = .solid c →
      (∀ m, n < m → m < 64 → recordPixel s.video s (spriteRecord s m) x y = .transparent) →
      pixelAt t.frame x y = some c)

/-- The sprite pass a composition runs is the pixel loop of R241, clipped at the frame's edges, on every frame pixel. -/
def Obligations.SpritePassIsThePixelLoop : Prop :=
  ∀ (v : VideoView) (s : State) (f : Canvas) (x y : Nat), x < 256 → y < 240 →
    drawSprites v s f x y = putSprites v s f x y

/-- R236 with R235: in 8x16 mode a vertically flipped sprite is the exact vertical mirror of the unflipped one. -/
def Obligations.TallSpriteFlipIsAMirror : Prop :=
  ∀ (v : VideoView) (s : State) (r r' : SpriteRecord) (x d : Nat), spritesTall s = true → r.flipV = false →
    r' = { r with attr := r.attr ||| 0x80 } → d < 16 →
    recordPixel v s r' x (r.y + (15 - d)) = recordPixel v s r x (r.y + d)

/-- R240 with R237: a sprite with Y at 240 or more draws nothing on the frame, in either mode. -/
def Obligations.SpritesBelowTheFrameAreClipped : Prop :=
  ∀ (v : VideoView) (s : State) (n x y : Nat) (f : Canvas), 240 ≤ (spriteRecord s n).y → y < 240 →
    drawSprite v s f n x y = f x y

/-- R239, R234: attribute bits 5 to 2, the priority bit among them, change no frame. -/
def Obligations.PriorityBitHasNoEffect : Prop :=
  ∀ (s : State) (o : Vector Byte 256),
    (∀ (i : Nat) (h : i < 256), if i % 4 = 2 then o[i] &&& 0xC3 = s.oam[i] &&& 0xC3 else o[i] = s.oam[i]) →
    (composeFrame { s with oam := o }).frame = (composeFrame s).frame

/-- R216, R76, R25: the composed surfaces depend only on VideoMemory, `oam`, `control`, the scroll and the parameters: `mask`,
`status`, `oamAddr`, the controller and everything else do not matter. Only in the corner no blit writes can a frame pixel also
depend on the frame before and on which free values come next (log 10). -/
def Obligations.CompositionReadsOnlyVideoState : Prop :=
  ∀ s s' t t' : State, (∀ k, k < 0x4000 → s.vramByte k = s'.vramByte k) → s.oam = s'.oam → s.control = s'.control →
    s.scrollX = s'.scrollX → s.scrollY = s'.scrollY → s.params = s'.params →
    exec .composeFrame s = .next t → exec .composeFrame s' = .next t' →
    t.composite = t'.composite ∧
    (∀ x y, x < 256 → y < 240 → x + scrollXEff s < 512 ∨ y + scrollYEff s < 480 →
      pixelAt t.frame x y = pixelAt t'.frame x y) ∧
    (s.frame = s'.frame → s.draws = s'.draws → t.frame = t'.frame)

/-- R174, R175, R67: palette entries 4, 8, 12, 16, 20, 24 and 28 and the VideoMemory bytes outside the pattern tables, the
nametables and palette RAM change no surface. -/
def Obligations.UnreadVideoBytesChangeNothing : Prop :=
  ∀ (s : State) (m : Memory),
    (∀ k, k < 0x3000 ∨ k = 0x3F00 ∨ (0x3F00 ≤ k ∧ k < 0x3F20 ∧ k % 4 ≠ 0) → m.read k = s.vram.read k) →
    (composeFrame { s with vram := m }).composite = (composeFrame s).composite ∧
    (composeFrame { s with vram := m }).frame = (composeFrame s).frame

/-! ### The whole machine -/

/-- Reset meets the invariant. That the control bits are distinct rests on the defaults of R9 in State.reset (log 12), that the
memories are canonical on their being empty there (R20, log 2): both are the model's choices. The masks are the zeros of R41. -/
def Obligations.ResetMeetsTheInvariant : Prop := Inv State.reset

/-- Every step keeps the invariant: memories canonical and inside their sizes (R20, log 2), shift masks 0 or one-hot
(R37, R253), parameters legal (R9). -/
def Obligations.StepKeepsTheInvariant : Prop := ∀ s t : State, Inv s → step s = .next t → Inv t

/-- R40: `refused` is set by a step only on a word with no meaning, `faulted` only under `P_VRAM_INDEX = Fault` with
`vramAddr` past VideoMemory, and neither is ever cleared. -/
def Obligations.MarksAreSetOnceAndForAll : Prop :=
  ∀ s t : State, step s = .next t →
    (s.refused = true → t.refused = true) ∧ (s.faulted = true → t.faulted = true) ∧
    (t.refused ≠ s.refused → ∃ (w : OpWord) (rest : List OpWord) (e : DecodeError),
      s.pending = w :: rest ∧ decode w = .error e) ∧
    (t.faulted ≠ s.faulted → s.params.vramIndex = .fault ∧ 0x4000 ≤ s.vramAddr.toNat)

/-- R313: no rule reads either mark: from a state that differs only in its marks, a step gives a state that differs only in
its marks. -/
def Obligations.MarksChangeNoBehaviour : Prop :=
  ∀ (s t : State) (r f : Bool), step s = .next t →
    ∃ t', step { s with refused := r, faulted := f } = .next t' ∧
      { t' with refused := false, faulted := false } = { t with refused := false, faulted := false }

/-- R22: which operations write each field; every other one leaves it unchanged. Diagnostic events are only ever appended,
but for INIT (R39). -/
def Obligations.OnlyTheNamedOperationsWrite : Prop :=
  ∀ (i : Instr) (s t : State), exec i s = .next t →
    ((∀ a v, i ≠ .writeControl a v) → i ≠ .init → t.control = s.control) ∧
    ((∀ a v, i ≠ .writeMask a v) → i ≠ .init → t.mask = s.mask) ∧
    (i ≠ .init → t.status = s.status ∧ t.scrollX = s.scrollX ∧ t.scrollY = s.scrollY) ∧
    ((∀ a v, i ≠ .writeOamAddr a v) → (∀ a v, i ≠ .writeOamData a v) → i ≠ .init → t.oamAddr = s.oamAddr) ∧
    ((∀ a v, i ≠ .writeVramAddr a v) → i ≠ .init → t.vramAddr = s.vramAddr ∧ t.writeLatch = s.writeLatch) ∧
    ((∀ p v, i ≠ .sampleInput p v) → i ≠ .init → t.buttons = s.buttons) ∧
    (i ≠ .readJoy1 → i ≠ .readJoy2 → i ≠ .init → ((∃ v, i = .writeJoyStrobe v) → s.params.strobeReset ≠ .onLatchWrite) →
      ((∃ v, i = .writeOamDma v) → s.params.dmaSource ≠ .mapped) → t.currentBit = s.currentBit) ∧
    ((∀ v, i ≠ .writeJoyStrobe v) → i ≠ .init → t.controllerLatch = s.controllerLatch) ∧
    ((∀ a v, i ≠ .writeOamData a v) → (∀ v, i ≠ .writeOamDma v) → i ≠ .init → t.oam = s.oam) ∧
    ((∀ a v, i ≠ .writeRamLow a v) → (∀ a v, i ≠ .writeRamHigh a v) → i ≠ .init → t.cpuMem = s.cpuMem) ∧
    ((∀ a v, i ≠ .writeVramData a v) → i ≠ .init → t.vram = s.vram) ∧
    (i ≠ .composeFrame → i ≠ .init → t.composite = s.composite ∧ t.frame = s.frame) ∧
    (i ≠ .init → s.diag <+: t.diag) ∧
    t.params = s.params ∧ t.cpuMem0 = s.cpuMem0 ∧ t.vram0 = s.vram0 ∧ t.pending = s.pending
end

