-- ==== Sys2Proof/Laws/Decode.lean ====
section
/-! SUPPORT. Lemmas about operation words and row selection: a word as a number, and a mask test as equations between
the fields of a number, which omega can use. -/

namespace Sys2Proof

theorem toNat_busReadWord (a : Addr) : (busReadWord a).toNat = a.toNat * 256 := by
  simp only [busReadWord, BitVec.toNat_append]
  have ha := a.isLt
  simp [Nat.shiftLeft_eq]

theorem toNat_busWriteWord (a : Addr) (d : Byte) : (busWriteWord a d).toNat = 0x1000000 + a.toNat * 256 + d.toNat := by
  have ha := a.isLt
  have hd := d.isLt
  simp only [busWriteWord, BitVec.toNat_append]
  rw [← Nat.shiftLeft_add_eq_or_of_lt ha, ← Nat.shiftLeft_add_eq_or_of_lt hd]
  have h1 : (1 : BitVec 2).toNat = 1 := rfl
  rw [h1]
  simp only [Nat.shiftLeft_eq]
  omega

theorem toNat_hostWord (h : Byte) (x : BitVec 16) : (hostWord h x).toNat = 0x2000000 + h.toNat * 65536 + x.toNat := by
  have hh := h.isLt
  have hx := x.isLt
  simp only [hostWord, BitVec.toNat_append]
  rw [← Nat.shiftLeft_add_eq_or_of_lt hh, ← Nat.shiftLeft_add_eq_or_of_lt hx]
  have h2 : (2 : BitVec 2).toNat = 2 := rfl
  rw [h2]
  simp only [Nat.shiftLeft_eq]
  omega

theorem toNat_wordAddr (w : OpWord) : (wordAddr w).toNat = w.toNat / 256 % 65536 := by
  simp [wordAddr, BitVec.extractLsb'_toNat, Nat.shiftRight_eq_div_pow]

theorem toNat_wordData (w : OpWord) : (wordData w).toNat = w.toNat % 256 := by
  simp [wordData, BitVec.extractLsb'_toNat]

theorem toNat_wordKind (w : OpWord) : (wordKind w).toNat = w.toNat / 0x1000000 := by
  have := w.isLt
  simp only [wordKind, BitVec.extractLsb'_toNat, Nat.shiftRight_eq_div_pow]
  omega

theorem toNat_wordHostOp (w : OpWord) : (wordHostOp w).toNat = w.toNat / 65536 % 256 := by
  simp [wordHostOp, BitVec.extractLsb'_toNat, Nat.shiftRight_eq_div_pow]

theorem wordPort_val (w : OpWord) : (wordPort w).val = w.toNat / 256 % 2 := by
  have h : w.getLsbD 8 = decide (w.toNat / 256 % 2 = 1) := by
    rw [← BitVec.testBit_toNat, Nat.testBit_eq_decide_div_mod_eq]
  rw [wordPort, h]
  have := Nat.mod_two_eq_zero_or_one (w.toNat / 256)
  rcases this with h | h <;> simp [h]

@[simp] theorem wordAddr_busReadWord (a : Addr) : wordAddr (busReadWord a) = a := by
  apply BitVec.eq_of_toNat_eq
  rw [toNat_wordAddr, toNat_busReadWord]
  have := a.isLt
  omega

@[simp] theorem wordAddr_busWriteWord (a : Addr) (d : Byte) : wordAddr (busWriteWord a d) = a := by
  apply BitVec.eq_of_toNat_eq
  rw [toNat_wordAddr, toNat_busWriteWord]
  have := a.isLt
  have := d.isLt
  omega

@[simp] theorem wordData_busWriteWord (a : Addr) (d : Byte) : wordData (busWriteWord a d) = d := by
  apply BitVec.eq_of_toNat_eq
  rw [toNat_wordData, toNat_busWriteWord]
  have := d.isLt
  omega

/-- The contiguous bit fields (low bit, length) a row's mask tests. -/
def maskFields (mask : OpWord) : List (Nat × Nat) :=
  (([ (0x3E000FF, [(21, 5), (0, 8)]), (0x3E007FF, [(21, 5), (0, 11)]), (0x3FFF0FF, [(12, 14), (0, 8)]),
      (0x3FFFCFF, [(10, 16), (0, 8)]), (0x3FFFFFF, [(0, 26)]), (0x30000FF, [(24, 2), (0, 8)]),
      (0x3E00000, [(21, 5)]), (0x3E00700, [(21, 5), (8, 3)]), (0x3FFF000, [(12, 14)]), (0x3FFFC00, [(10, 16)]),
      (0x3FFFF00, [(8, 18)]), (0x3000000, [(24, 2)]), (0x3FFFE00, [(9, 17)]) ] :
    List (OpWord × List (Nat × Nat))).lookup mask).getD []

/-- The number's bits `lo` to `lo + len - 1`. -/
def field (n : Nat) (f : Nat × Nat) : Nat := n / 2 ^ f.1 % 2 ^ f.2

theorem field_eq_iff (m n : Nat) (f : Nat × Nat) :
    field m f = field n f ↔ ∀ i, f.1 ≤ i → i < f.1 + f.2 → m.testBit i = n.testBit i := by
  unfold field
  constructor
  · intro h i h1 h2
    have := congrArg (fun x => x.testBit (i - f.1)) h
    simp only [Nat.testBit_mod_two_pow, Nat.testBit_div_two_pow] at this
    rw [show i - f.1 + f.1 = i by omega] at this
    simpa [show i - f.1 < f.2 by omega] using this
  · intro h
    apply Nat.eq_of_testBit_eq
    intro j
    simp only [Nat.testBit_mod_two_pow, Nat.testBit_div_two_pow]
    by_cases hj : j < f.2
    · simp [hj, h (j + f.1) (by omega) (by omega)]
    · simp [hj]

/-- What a decided check of a mask and its fields says: they cover the same bits, and the pattern has no other. -/
def fieldsCover (mask pattern : OpWord) : Bool :=
  (List.range 26).all fun i =>
    (mask.getLsbD i == (maskFields mask).any fun f => decide (f.1 ≤ i) && decide (i < f.1 + f.2)) &&
    (mask.getLsbD i || !pattern.getLsbD i)

theorem mask_test_iff_fields (w mask pattern : OpWord) (h : fieldsCover mask pattern = true)
    (hb : ∀ f ∈ maskFields mask, f.1 + f.2 ≤ 26) :
    (w &&& mask = pattern) ↔ ∀ f ∈ maskFields mask, field w.toNat f = field pattern.toNat f := by
  have hc : ∀ i, i < 26 → (mask.getLsbD i = true ↔ ∃ f ∈ maskFields mask, f.1 ≤ i ∧ i < f.1 + f.2) ∧
      (mask.getLsbD i = false → pattern.getLsbD i = false) := by
    intro i hi
    have := List.all_eq_true.mp h i (List.mem_range.mpr hi)
    simp only [Bool.and_eq_true, beq_iff_eq, Bool.or_eq_true, Bool.not_eq_true'] at this
    obtain ⟨h1, h2⟩ := this
    refine ⟨by rw [h1]; simp [List.any_eq_true], fun hf => ?_⟩
    rcases h2 with h2 | h2
    · rw [hf] at h2; cases h2
    · exact h2
  constructor
  · intro he f hf
    rw [field_eq_iff]
    intro i h1 h2
    have hi : i < 26 := lt_of_lt_of_le h2 (hb f hf)
    have hm := (hc i hi).1.mpr ⟨f, hf, h1, h2⟩
    have := congrArg (fun x => x.getLsbD i) he
    simp only [BitVec.getLsbD_and, hm, Bool.and_true] at this
    simpa [BitVec.testBit_toNat] using this
  · intro hf
    apply BitVec.eq_of_getLsbD_eq
    intro i hi
    rw [BitVec.getLsbD_and]
    by_cases hm : mask.getLsbD i = true
    · obtain ⟨f, hfm, h1, h2⟩ := (hc i hi).1.mp hm
      have := (field_eq_iff _ _ _).mp (hf f hfm) i h1 h2
      simpa [hm, BitVec.testBit_toNat] using this
    · have hm' : mask.getLsbD i = false := by simpa using hm
      simp [hm', (hc i hi).2 hm']

theorem opTable_fields : ∀ r ∈ opTable,
    fieldsCover r.mask r.pattern = true ∧ ∀ f ∈ maskFields r.mask, f.1 + f.2 ≤ 26 := by decide +kernel

/-- A row of the table selects a word exactly when every field its mask tests has the pattern's value. -/
theorem selects_iff_fields {r : Row} (hr : r ∈ opTable) (w : OpWord) :
    r.selects w = true ↔ ∀ f ∈ maskFields r.mask, field w.toNat f = field r.pattern.toNat f := by
  rw [Row.selects, beq_iff_eq]
  exact mask_test_iff_fields w _ _ (opTable_fields r hr).1 (opTable_fields r hr).2

/-- Decoding, with every row's mask test written as equations between fields of the word. -/
theorem decode_eq_fields (w : OpWord) : decode w =
    match opTable.find? (fun r => (maskFields r.mask).all fun f => field w.toNat f == field r.pattern.toNat f) with
    | some r => .ok (r.build w)
    | none => .error (rejectReason w) := by
  have hcongr : ∀ l : List Row, (∀ r ∈ l, r ∈ opTable) →
      l.find? (fun r => r.selects w) =
      l.find? (fun r => (maskFields r.mask).all fun f => field w.toNat f == field r.pattern.toNat f) := by
    intro l
    induction l with
    | nil => intro _; rfl
    | cons r l ih =>
      intro hl
      have h1 : r.selects w = (maskFields r.mask).all fun f => field w.toNat f == field r.pattern.toNat f := by
        rw [Bool.eq_iff_iff, selects_iff_fields (hl r (by simp)), List.all_eq_true]
        simp
      rw [List.find?_cons, List.find?_cons, h1, ih fun r hr => hl r (by simp [hr])]
  show (match opTable.find? (fun r => r.selects w) with
    | some r => Except.ok (r.build w)
    | none => .error (rejectReason w)) = _
  rw [hcongr opTable fun _ h => h]

/-- The first row of a list whose fields a word has, built; the refusal if there is none. -/
def pick (w : OpWord) (l : List Row) : Except DecodeError Instr :=
  match l.find? (fun r => (maskFields r.mask).all fun f => field w.toNat f == field r.pattern.toNat f) with
  | some r => .ok (r.build w)
  | none => .error (rejectReason w)

theorem pick_cons (w : OpWord) (r : Row) (l : List Row) : pick w (r :: l) =
    if ∀ f ∈ maskFields r.mask, field w.toNat f = field r.pattern.toNat f then .ok (r.build w) else pick w l := by
  unfold pick
  rw [List.find?_cons]
  by_cases h : ∀ f ∈ maskFields r.mask, field w.toNat f = field r.pattern.toNat f
  · have : ((maskFields r.mask).all fun f => field w.toNat f == field r.pattern.toNat f) = true := by
      simpa [List.all_eq_true] using h
    rw [this, if_pos h]
  · have : ((maskFields r.mask).all fun f => field w.toNat f == field r.pattern.toNat f) = false := by
      rw [← Bool.not_eq_true, List.all_eq_true]
      simpa using h
    rw [this, if_neg h]

/-- Decoding as a chain of equations between fields of the word, one for each row in ascending priority. -/
theorem decode_chain (w : OpWord) : decode w =
    if w.toNat / 2097152 % 32 = 0 ∧ w.toNat % 256 = 0 then .ok (.readRamLow (wordAddr w)) else
    if w.toNat / 2097152 % 32 = 1 ∧ w.toNat % 2048 = 0 then .ok (.readControl (wordAddr w)) else
    if w.toNat / 2097152 % 32 = 1 ∧ w.toNat % 2048 = 256 then .ok (.readMask (wordAddr w)) else
    if w.toNat / 2097152 % 32 = 1 ∧ w.toNat % 2048 = 512 then .ok (.readStatus (wordAddr w)) else
    if w.toNat / 2097152 % 32 = 1 ∧ w.toNat % 2048 = 768 then .ok (.readOamAddr (wordAddr w)) else
    if w.toNat / 2097152 % 32 = 1 ∧ w.toNat % 2048 = 1024 then .ok (.readOamData (wordAddr w)) else
    if w.toNat / 2097152 % 32 = 1 ∧ w.toNat % 2048 = 1280 then .ok (.readScroll (wordAddr w)) else
    if w.toNat / 2097152 % 32 = 1 ∧ w.toNat % 2048 = 1536 then .ok (.readVramAddr (wordAddr w)) else
    if w.toNat / 2097152 % 32 = 1 ∧ w.toNat % 2048 = 1792 then .ok (.readVramData (wordAddr w)) else
    if w.toNat / 4096 % 16384 = 1024 ∧ w.toNat % 256 = 0 then .ok (.readApu4000 (wordAddr w)) else
    if w.toNat / 1024 % 65536 = 4100 ∧ w.toNat % 256 = 0 then .ok (.readApu4010 (wordAddr w)) else
    if w.toNat % 67108864 = 4199424 then .ok (.read4014) else
    if w.toNat % 67108864 = 4199680 then .ok (.readApu4015) else
    if w.toNat % 67108864 = 4199936 then .ok (.readJoy1) else
    if w.toNat % 67108864 = 4200192 then .ok (.readJoy2) else
    if w.toNat / 16777216 % 4 = 0 ∧ w.toNat % 256 = 0 then .ok (.readRamHigh (wordAddr w)) else
    if w.toNat / 2097152 % 32 = 8 then .ok (.writeRamLow (wordAddr w) (wordData w)) else
    if w.toNat / 2097152 % 32 = 9 ∧ w.toNat / 256 % 8 = 0 then .ok (.writeControl (wordAddr w) (wordData w)) else
    if w.toNat / 2097152 % 32 = 9 ∧ w.toNat / 256 % 8 = 1 then .ok (.writeMask (wordAddr w) (wordData w)) else
    if w.toNat / 2097152 % 32 = 9 ∧ w.toNat / 256 % 8 = 2 then .ok (.writeStatus (wordAddr w) (wordData w)) else
    if w.toNat / 2097152 % 32 = 9 ∧ w.toNat / 256 % 8 = 3 then .ok (.writeOamAddr (wordAddr w) (wordData w)) else
    if w.toNat / 2097152 % 32 = 9 ∧ w.toNat / 256 % 8 = 4 then .ok (.writeOamData (wordAddr w) (wordData w)) else
    if w.toNat / 2097152 % 32 = 9 ∧ w.toNat / 256 % 8 = 5 then .ok (.writeScroll (wordAddr w) (wordData w)) else
    if w.toNat / 2097152 % 32 = 9 ∧ w.toNat / 256 % 8 = 6 then .ok (.writeVramAddr (wordAddr w) (wordData w)) else
    if w.toNat / 2097152 % 32 = 9 ∧ w.toNat / 256 % 8 = 7 then .ok (.writeVramData (wordAddr w) (wordData w)) else
    if w.toNat / 4096 % 16384 = 5120 then .ok (.writeApu4000 (wordAddr w) (wordData w)) else
    if w.toNat / 1024 % 65536 = 20484 then .ok (.writeApu4010 (wordAddr w) (wordData w)) else
    if w.toNat / 256 % 262144 = 81940 then .ok (.writeOamDma (wordData w)) else
    if w.toNat / 256 % 262144 = 81941 then .ok (.writeApu4015 (wordData w)) else
    if w.toNat / 256 % 262144 = 81942 then .ok (.writeJoyStrobe (wordData w)) else
    if w.toNat / 256 % 262144 = 81943 then .ok (.writeApu4017 (wordData w)) else
    if w.toNat / 16777216 % 4 = 1 then .ok (.writeRamHigh (wordAddr w) (wordData w)) else
    if w.toNat % 67108864 = 33554432 then .ok (.init) else
    if w.toNat % 67108864 = 33619968 then .ok (.composeFrame) else
    if w.toNat / 512 % 131072 = 65792 then .ok (.sampleInput (wordPort w) (wordData w)) else
    .error (rejectReason w) := by
  rw [decode_eq_fields]
  change pick w opTable = _
  simp only [opTable, readRows, writeRows, hostRows, List.cons_append, List.nil_append, pick_cons]
  simp [maskFields, List.lookup, field, pick]

end Sys2Proof
end

