-- ==== Sys2Proof/Laws/State.lean ====
section
/-! SUPPORT. One lemma per field per update of State, and what each derived read (a byte of a store, the rendering
view) sees of an update. -/

namespace Sys2Proof.Machine

section
variable (s : State) (m : Memory)
@[simp] theorem State.setCpuMem_params : (s.setCpuMem m).params = s.params := rfl
@[simp] theorem State.setCpuMem_cpuMem0 : (s.setCpuMem m).cpuMem0 = s.cpuMem0 := rfl
@[simp] theorem State.setCpuMem_vram0 : (s.setCpuMem m).vram0 = s.vram0 := rfl
@[simp] theorem State.setCpuMem_cpuMem : (s.setCpuMem m).cpuMem = m := rfl
@[simp] theorem State.setCpuMem_vram : (s.setCpuMem m).vram = s.vram := rfl
@[simp] theorem State.setCpuMem_oam : (s.setCpuMem m).oam = s.oam := rfl
@[simp] theorem State.setCpuMem_control : (s.setCpuMem m).control = s.control := rfl
@[simp] theorem State.setCpuMem_mask : (s.setCpuMem m).mask = s.mask := rfl
@[simp] theorem State.setCpuMem_status : (s.setCpuMem m).status = s.status := rfl
@[simp] theorem State.setCpuMem_oamAddr : (s.setCpuMem m).oamAddr = s.oamAddr := rfl
@[simp] theorem State.setCpuMem_vramAddr : (s.setCpuMem m).vramAddr = s.vramAddr := rfl
@[simp] theorem State.setCpuMem_writeLatch : (s.setCpuMem m).writeLatch = s.writeLatch := rfl
@[simp] theorem State.setCpuMem_scrollX : (s.setCpuMem m).scrollX = s.scrollX := rfl
@[simp] theorem State.setCpuMem_scrollY : (s.setCpuMem m).scrollY = s.scrollY := rfl
@[simp] theorem State.setCpuMem_buttons : (s.setCpuMem m).buttons = s.buttons := rfl
@[simp] theorem State.setCpuMem_currentBit : (s.setCpuMem m).currentBit = s.currentBit := rfl
@[simp] theorem State.setCpuMem_controllerLatch : (s.setCpuMem m).controllerLatch = s.controllerLatch := rfl
@[simp] theorem State.setCpuMem_composite : (s.setCpuMem m).composite = s.composite := rfl
@[simp] theorem State.setCpuMem_frame : (s.setCpuMem m).frame = s.frame := rfl
@[simp] theorem State.setCpuMem_diag : (s.setCpuMem m).diag = s.diag := rfl
@[simp] theorem State.setCpuMem_refused : (s.setCpuMem m).refused = s.refused := rfl
@[simp] theorem State.setCpuMem_faulted : (s.setCpuMem m).faulted = s.faulted := rfl
@[simp] theorem State.setCpuMem_result : (s.setCpuMem m).result = s.result := rfl
@[simp] theorem State.setCpuMem_draws : (s.setCpuMem m).draws = s.draws := rfl
@[simp] theorem State.setCpuMem_pending : (s.setCpuMem m).pending = s.pending := rfl
@[simp] theorem State.setCpuMem_vramByte (i : Nat) : (s.setCpuMem m).vramByte i = s.vramByte i := rfl
@[simp] theorem State.setCpuMem_video : (s.setCpuMem m).video = s.video := rfl
@[simp] theorem State.setCpuMem_oamByte (i : Nat) : (s.setCpuMem m).oamByte i = s.oamByte i := rfl
end

section
variable (s : State) (m : Memory)
@[simp] theorem State.setVram_params : (s.setVram m).params = s.params := rfl
@[simp] theorem State.setVram_cpuMem0 : (s.setVram m).cpuMem0 = s.cpuMem0 := rfl
@[simp] theorem State.setVram_vram0 : (s.setVram m).vram0 = s.vram0 := rfl
@[simp] theorem State.setVram_cpuMem : (s.setVram m).cpuMem = s.cpuMem := rfl
@[simp] theorem State.setVram_vram : (s.setVram m).vram = m := rfl
@[simp] theorem State.setVram_oam : (s.setVram m).oam = s.oam := rfl
@[simp] theorem State.setVram_control : (s.setVram m).control = s.control := rfl
@[simp] theorem State.setVram_mask : (s.setVram m).mask = s.mask := rfl
@[simp] theorem State.setVram_status : (s.setVram m).status = s.status := rfl
@[simp] theorem State.setVram_oamAddr : (s.setVram m).oamAddr = s.oamAddr := rfl
@[simp] theorem State.setVram_vramAddr : (s.setVram m).vramAddr = s.vramAddr := rfl
@[simp] theorem State.setVram_writeLatch : (s.setVram m).writeLatch = s.writeLatch := rfl
@[simp] theorem State.setVram_scrollX : (s.setVram m).scrollX = s.scrollX := rfl
@[simp] theorem State.setVram_scrollY : (s.setVram m).scrollY = s.scrollY := rfl
@[simp] theorem State.setVram_buttons : (s.setVram m).buttons = s.buttons := rfl
@[simp] theorem State.setVram_currentBit : (s.setVram m).currentBit = s.currentBit := rfl
@[simp] theorem State.setVram_controllerLatch : (s.setVram m).controllerLatch = s.controllerLatch := rfl
@[simp] theorem State.setVram_composite : (s.setVram m).composite = s.composite := rfl
@[simp] theorem State.setVram_frame : (s.setVram m).frame = s.frame := rfl
@[simp] theorem State.setVram_diag : (s.setVram m).diag = s.diag := rfl
@[simp] theorem State.setVram_refused : (s.setVram m).refused = s.refused := rfl
@[simp] theorem State.setVram_faulted : (s.setVram m).faulted = s.faulted := rfl
@[simp] theorem State.setVram_result : (s.setVram m).result = s.result := rfl
@[simp] theorem State.setVram_draws : (s.setVram m).draws = s.draws := rfl
@[simp] theorem State.setVram_pending : (s.setVram m).pending = s.pending := rfl
@[simp] theorem State.setVram_cpuByte (i : Addr) : (s.setVram m).cpuByte i = s.cpuByte i := rfl
@[simp] theorem State.setVram_oamByte (i : Nat) : (s.setVram m).oamByte i = s.oamByte i := rfl
end

section
variable (s : State) (o : Vector Byte 256)
@[simp] theorem State.setOam_params : (s.setOam o).params = s.params := rfl
@[simp] theorem State.setOam_cpuMem0 : (s.setOam o).cpuMem0 = s.cpuMem0 := rfl
@[simp] theorem State.setOam_vram0 : (s.setOam o).vram0 = s.vram0 := rfl
@[simp] theorem State.setOam_cpuMem : (s.setOam o).cpuMem = s.cpuMem := rfl
@[simp] theorem State.setOam_vram : (s.setOam o).vram = s.vram := rfl
@[simp] theorem State.setOam_oam : (s.setOam o).oam = o := rfl
@[simp] theorem State.setOam_control : (s.setOam o).control = s.control := rfl
@[simp] theorem State.setOam_mask : (s.setOam o).mask = s.mask := rfl
@[simp] theorem State.setOam_status : (s.setOam o).status = s.status := rfl
@[simp] theorem State.setOam_oamAddr : (s.setOam o).oamAddr = s.oamAddr := rfl
@[simp] theorem State.setOam_vramAddr : (s.setOam o).vramAddr = s.vramAddr := rfl
@[simp] theorem State.setOam_writeLatch : (s.setOam o).writeLatch = s.writeLatch := rfl
@[simp] theorem State.setOam_scrollX : (s.setOam o).scrollX = s.scrollX := rfl
@[simp] theorem State.setOam_scrollY : (s.setOam o).scrollY = s.scrollY := rfl
@[simp] theorem State.setOam_buttons : (s.setOam o).buttons = s.buttons := rfl
@[simp] theorem State.setOam_currentBit : (s.setOam o).currentBit = s.currentBit := rfl
@[simp] theorem State.setOam_controllerLatch : (s.setOam o).controllerLatch = s.controllerLatch := rfl
@[simp] theorem State.setOam_composite : (s.setOam o).composite = s.composite := rfl
@[simp] theorem State.setOam_frame : (s.setOam o).frame = s.frame := rfl
@[simp] theorem State.setOam_diag : (s.setOam o).diag = s.diag := rfl
@[simp] theorem State.setOam_refused : (s.setOam o).refused = s.refused := rfl
@[simp] theorem State.setOam_faulted : (s.setOam o).faulted = s.faulted := rfl
@[simp] theorem State.setOam_result : (s.setOam o).result = s.result := rfl
@[simp] theorem State.setOam_draws : (s.setOam o).draws = s.draws := rfl
@[simp] theorem State.setOam_pending : (s.setOam o).pending = s.pending := rfl
@[simp] theorem State.setOam_cpuByte (i : Addr) : (s.setOam o).cpuByte i = s.cpuByte i := rfl
@[simp] theorem State.setOam_vramByte (i : Nat) : (s.setOam o).vramByte i = s.vramByte i := rfl
@[simp] theorem State.setOam_video : (s.setOam o).video = s.video := rfl
end

section
variable (s : State) (v : Byte)
@[simp] theorem State.setControl_params : (s.setControl v).params = s.params := rfl
@[simp] theorem State.setControl_cpuMem0 : (s.setControl v).cpuMem0 = s.cpuMem0 := rfl
@[simp] theorem State.setControl_vram0 : (s.setControl v).vram0 = s.vram0 := rfl
@[simp] theorem State.setControl_cpuMem : (s.setControl v).cpuMem = s.cpuMem := rfl
@[simp] theorem State.setControl_vram : (s.setControl v).vram = s.vram := rfl
@[simp] theorem State.setControl_oam : (s.setControl v).oam = s.oam := rfl
@[simp] theorem State.setControl_control : (s.setControl v).control = v := rfl
@[simp] theorem State.setControl_mask : (s.setControl v).mask = s.mask := rfl
@[simp] theorem State.setControl_status : (s.setControl v).status = s.status := rfl
@[simp] theorem State.setControl_oamAddr : (s.setControl v).oamAddr = s.oamAddr := rfl
@[simp] theorem State.setControl_vramAddr : (s.setControl v).vramAddr = s.vramAddr := rfl
@[simp] theorem State.setControl_writeLatch : (s.setControl v).writeLatch = s.writeLatch := rfl
@[simp] theorem State.setControl_scrollX : (s.setControl v).scrollX = s.scrollX := rfl
@[simp] theorem State.setControl_scrollY : (s.setControl v).scrollY = s.scrollY := rfl
@[simp] theorem State.setControl_buttons : (s.setControl v).buttons = s.buttons := rfl
@[simp] theorem State.setControl_currentBit : (s.setControl v).currentBit = s.currentBit := rfl
@[simp] theorem State.setControl_controllerLatch : (s.setControl v).controllerLatch = s.controllerLatch := rfl
@[simp] theorem State.setControl_composite : (s.setControl v).composite = s.composite := rfl
@[simp] theorem State.setControl_frame : (s.setControl v).frame = s.frame := rfl
@[simp] theorem State.setControl_diag : (s.setControl v).diag = s.diag := rfl
@[simp] theorem State.setControl_refused : (s.setControl v).refused = s.refused := rfl
@[simp] theorem State.setControl_faulted : (s.setControl v).faulted = s.faulted := rfl
@[simp] theorem State.setControl_result : (s.setControl v).result = s.result := rfl
@[simp] theorem State.setControl_draws : (s.setControl v).draws = s.draws := rfl
@[simp] theorem State.setControl_pending : (s.setControl v).pending = s.pending := rfl
@[simp] theorem State.setControl_cpuByte (i : Addr) : (s.setControl v).cpuByte i = s.cpuByte i := rfl
@[simp] theorem State.setControl_vramByte (i : Nat) : (s.setControl v).vramByte i = s.vramByte i := rfl
@[simp] theorem State.setControl_video : (s.setControl v).video = s.video := rfl
@[simp] theorem State.setControl_oamByte (i : Nat) : (s.setControl v).oamByte i = s.oamByte i := rfl
end

section
variable (s : State) (v : Byte)
@[simp] theorem State.setMask_params : (s.setMask v).params = s.params := rfl
@[simp] theorem State.setMask_cpuMem0 : (s.setMask v).cpuMem0 = s.cpuMem0 := rfl
@[simp] theorem State.setMask_vram0 : (s.setMask v).vram0 = s.vram0 := rfl
@[simp] theorem State.setMask_cpuMem : (s.setMask v).cpuMem = s.cpuMem := rfl
@[simp] theorem State.setMask_vram : (s.setMask v).vram = s.vram := rfl
@[simp] theorem State.setMask_oam : (s.setMask v).oam = s.oam := rfl
@[simp] theorem State.setMask_control : (s.setMask v).control = s.control := rfl
@[simp] theorem State.setMask_mask : (s.setMask v).mask = v := rfl
@[simp] theorem State.setMask_status : (s.setMask v).status = s.status := rfl
@[simp] theorem State.setMask_oamAddr : (s.setMask v).oamAddr = s.oamAddr := rfl
@[simp] theorem State.setMask_vramAddr : (s.setMask v).vramAddr = s.vramAddr := rfl
@[simp] theorem State.setMask_writeLatch : (s.setMask v).writeLatch = s.writeLatch := rfl
@[simp] theorem State.setMask_scrollX : (s.setMask v).scrollX = s.scrollX := rfl
@[simp] theorem State.setMask_scrollY : (s.setMask v).scrollY = s.scrollY := rfl
@[simp] theorem State.setMask_buttons : (s.setMask v).buttons = s.buttons := rfl
@[simp] theorem State.setMask_currentBit : (s.setMask v).currentBit = s.currentBit := rfl
@[simp] theorem State.setMask_controllerLatch : (s.setMask v).controllerLatch = s.controllerLatch := rfl
@[simp] theorem State.setMask_composite : (s.setMask v).composite = s.composite := rfl
@[simp] theorem State.setMask_frame : (s.setMask v).frame = s.frame := rfl
@[simp] theorem State.setMask_diag : (s.setMask v).diag = s.diag := rfl
@[simp] theorem State.setMask_refused : (s.setMask v).refused = s.refused := rfl
@[simp] theorem State.setMask_faulted : (s.setMask v).faulted = s.faulted := rfl
@[simp] theorem State.setMask_result : (s.setMask v).result = s.result := rfl
@[simp] theorem State.setMask_draws : (s.setMask v).draws = s.draws := rfl
@[simp] theorem State.setMask_pending : (s.setMask v).pending = s.pending := rfl
@[simp] theorem State.setMask_cpuByte (i : Addr) : (s.setMask v).cpuByte i = s.cpuByte i := rfl
@[simp] theorem State.setMask_vramByte (i : Nat) : (s.setMask v).vramByte i = s.vramByte i := rfl
@[simp] theorem State.setMask_video : (s.setMask v).video = s.video := rfl
@[simp] theorem State.setMask_oamByte (i : Nat) : (s.setMask v).oamByte i = s.oamByte i := rfl
end

section
variable (s : State) (v : Byte)
@[simp] theorem State.setOamAddr_params : (s.setOamAddr v).params = s.params := rfl
@[simp] theorem State.setOamAddr_cpuMem0 : (s.setOamAddr v).cpuMem0 = s.cpuMem0 := rfl
@[simp] theorem State.setOamAddr_vram0 : (s.setOamAddr v).vram0 = s.vram0 := rfl
@[simp] theorem State.setOamAddr_cpuMem : (s.setOamAddr v).cpuMem = s.cpuMem := rfl
@[simp] theorem State.setOamAddr_vram : (s.setOamAddr v).vram = s.vram := rfl
@[simp] theorem State.setOamAddr_oam : (s.setOamAddr v).oam = s.oam := rfl
@[simp] theorem State.setOamAddr_control : (s.setOamAddr v).control = s.control := rfl
@[simp] theorem State.setOamAddr_mask : (s.setOamAddr v).mask = s.mask := rfl
@[simp] theorem State.setOamAddr_status : (s.setOamAddr v).status = s.status := rfl
@[simp] theorem State.setOamAddr_oamAddr : (s.setOamAddr v).oamAddr = v := rfl
@[simp] theorem State.setOamAddr_vramAddr : (s.setOamAddr v).vramAddr = s.vramAddr := rfl
@[simp] theorem State.setOamAddr_writeLatch : (s.setOamAddr v).writeLatch = s.writeLatch := rfl
@[simp] theorem State.setOamAddr_scrollX : (s.setOamAddr v).scrollX = s.scrollX := rfl
@[simp] theorem State.setOamAddr_scrollY : (s.setOamAddr v).scrollY = s.scrollY := rfl
@[simp] theorem State.setOamAddr_buttons : (s.setOamAddr v).buttons = s.buttons := rfl
@[simp] theorem State.setOamAddr_currentBit : (s.setOamAddr v).currentBit = s.currentBit := rfl
@[simp] theorem State.setOamAddr_controllerLatch : (s.setOamAddr v).controllerLatch = s.controllerLatch := rfl
@[simp] theorem State.setOamAddr_composite : (s.setOamAddr v).composite = s.composite := rfl
@[simp] theorem State.setOamAddr_frame : (s.setOamAddr v).frame = s.frame := rfl
@[simp] theorem State.setOamAddr_diag : (s.setOamAddr v).diag = s.diag := rfl
@[simp] theorem State.setOamAddr_refused : (s.setOamAddr v).refused = s.refused := rfl
@[simp] theorem State.setOamAddr_faulted : (s.setOamAddr v).faulted = s.faulted := rfl
@[simp] theorem State.setOamAddr_result : (s.setOamAddr v).result = s.result := rfl
@[simp] theorem State.setOamAddr_draws : (s.setOamAddr v).draws = s.draws := rfl
@[simp] theorem State.setOamAddr_pending : (s.setOamAddr v).pending = s.pending := rfl
@[simp] theorem State.setOamAddr_cpuByte (i : Addr) : (s.setOamAddr v).cpuByte i = s.cpuByte i := rfl
@[simp] theorem State.setOamAddr_vramByte (i : Nat) : (s.setOamAddr v).vramByte i = s.vramByte i := rfl
@[simp] theorem State.setOamAddr_video : (s.setOamAddr v).video = s.video := rfl
@[simp] theorem State.setOamAddr_oamByte (i : Nat) : (s.setOamAddr v).oamByte i = s.oamByte i := rfl
end

section
variable (s : State) (v : Addr)
@[simp] theorem State.setVramAddr_params : (s.setVramAddr v).params = s.params := rfl
@[simp] theorem State.setVramAddr_cpuMem0 : (s.setVramAddr v).cpuMem0 = s.cpuMem0 := rfl
@[simp] theorem State.setVramAddr_vram0 : (s.setVramAddr v).vram0 = s.vram0 := rfl
@[simp] theorem State.setVramAddr_cpuMem : (s.setVramAddr v).cpuMem = s.cpuMem := rfl
@[simp] theorem State.setVramAddr_vram : (s.setVramAddr v).vram = s.vram := rfl
@[simp] theorem State.setVramAddr_oam : (s.setVramAddr v).oam = s.oam := rfl
@[simp] theorem State.setVramAddr_control : (s.setVramAddr v).control = s.control := rfl
@[simp] theorem State.setVramAddr_mask : (s.setVramAddr v).mask = s.mask := rfl
@[simp] theorem State.setVramAddr_status : (s.setVramAddr v).status = s.status := rfl
@[simp] theorem State.setVramAddr_oamAddr : (s.setVramAddr v).oamAddr = s.oamAddr := rfl
@[simp] theorem State.setVramAddr_vramAddr : (s.setVramAddr v).vramAddr = v := rfl
@[simp] theorem State.setVramAddr_writeLatch : (s.setVramAddr v).writeLatch = s.writeLatch := rfl
@[simp] theorem State.setVramAddr_scrollX : (s.setVramAddr v).scrollX = s.scrollX := rfl
@[simp] theorem State.setVramAddr_scrollY : (s.setVramAddr v).scrollY = s.scrollY := rfl
@[simp] theorem State.setVramAddr_buttons : (s.setVramAddr v).buttons = s.buttons := rfl
@[simp] theorem State.setVramAddr_currentBit : (s.setVramAddr v).currentBit = s.currentBit := rfl
@[simp] theorem State.setVramAddr_controllerLatch : (s.setVramAddr v).controllerLatch = s.controllerLatch := rfl
@[simp] theorem State.setVramAddr_composite : (s.setVramAddr v).composite = s.composite := rfl
@[simp] theorem State.setVramAddr_frame : (s.setVramAddr v).frame = s.frame := rfl
@[simp] theorem State.setVramAddr_diag : (s.setVramAddr v).diag = s.diag := rfl
@[simp] theorem State.setVramAddr_refused : (s.setVramAddr v).refused = s.refused := rfl
@[simp] theorem State.setVramAddr_faulted : (s.setVramAddr v).faulted = s.faulted := rfl
@[simp] theorem State.setVramAddr_result : (s.setVramAddr v).result = s.result := rfl
@[simp] theorem State.setVramAddr_draws : (s.setVramAddr v).draws = s.draws := rfl
@[simp] theorem State.setVramAddr_pending : (s.setVramAddr v).pending = s.pending := rfl
@[simp] theorem State.setVramAddr_cpuByte (i : Addr) : (s.setVramAddr v).cpuByte i = s.cpuByte i := rfl
@[simp] theorem State.setVramAddr_vramByte (i : Nat) : (s.setVramAddr v).vramByte i = s.vramByte i := rfl
@[simp] theorem State.setVramAddr_video : (s.setVramAddr v).video = s.video := rfl
@[simp] theorem State.setVramAddr_oamByte (i : Nat) : (s.setVramAddr v).oamByte i = s.oamByte i := rfl
end

section
variable (s : State) (b : Bool)
@[simp] theorem State.setWriteLatch_params : (s.setWriteLatch b).params = s.params := rfl
@[simp] theorem State.setWriteLatch_cpuMem0 : (s.setWriteLatch b).cpuMem0 = s.cpuMem0 := rfl
@[simp] theorem State.setWriteLatch_vram0 : (s.setWriteLatch b).vram0 = s.vram0 := rfl
@[simp] theorem State.setWriteLatch_cpuMem : (s.setWriteLatch b).cpuMem = s.cpuMem := rfl
@[simp] theorem State.setWriteLatch_vram : (s.setWriteLatch b).vram = s.vram := rfl
@[simp] theorem State.setWriteLatch_oam : (s.setWriteLatch b).oam = s.oam := rfl
@[simp] theorem State.setWriteLatch_control : (s.setWriteLatch b).control = s.control := rfl
@[simp] theorem State.setWriteLatch_mask : (s.setWriteLatch b).mask = s.mask := rfl
@[simp] theorem State.setWriteLatch_status : (s.setWriteLatch b).status = s.status := rfl
@[simp] theorem State.setWriteLatch_oamAddr : (s.setWriteLatch b).oamAddr = s.oamAddr := rfl
@[simp] theorem State.setWriteLatch_vramAddr : (s.setWriteLatch b).vramAddr = s.vramAddr := rfl
@[simp] theorem State.setWriteLatch_writeLatch : (s.setWriteLatch b).writeLatch = b := rfl
@[simp] theorem State.setWriteLatch_scrollX : (s.setWriteLatch b).scrollX = s.scrollX := rfl
@[simp] theorem State.setWriteLatch_scrollY : (s.setWriteLatch b).scrollY = s.scrollY := rfl
@[simp] theorem State.setWriteLatch_buttons : (s.setWriteLatch b).buttons = s.buttons := rfl
@[simp] theorem State.setWriteLatch_currentBit : (s.setWriteLatch b).currentBit = s.currentBit := rfl
@[simp] theorem State.setWriteLatch_controllerLatch : (s.setWriteLatch b).controllerLatch = s.controllerLatch := rfl
@[simp] theorem State.setWriteLatch_composite : (s.setWriteLatch b).composite = s.composite := rfl
@[simp] theorem State.setWriteLatch_frame : (s.setWriteLatch b).frame = s.frame := rfl
@[simp] theorem State.setWriteLatch_diag : (s.setWriteLatch b).diag = s.diag := rfl
@[simp] theorem State.setWriteLatch_refused : (s.setWriteLatch b).refused = s.refused := rfl
@[simp] theorem State.setWriteLatch_faulted : (s.setWriteLatch b).faulted = s.faulted := rfl
@[simp] theorem State.setWriteLatch_result : (s.setWriteLatch b).result = s.result := rfl
@[simp] theorem State.setWriteLatch_draws : (s.setWriteLatch b).draws = s.draws := rfl
@[simp] theorem State.setWriteLatch_pending : (s.setWriteLatch b).pending = s.pending := rfl
@[simp] theorem State.setWriteLatch_cpuByte (i : Addr) : (s.setWriteLatch b).cpuByte i = s.cpuByte i := rfl
@[simp] theorem State.setWriteLatch_vramByte (i : Nat) : (s.setWriteLatch b).vramByte i = s.vramByte i := rfl
@[simp] theorem State.setWriteLatch_video : (s.setWriteLatch b).video = s.video := rfl
@[simp] theorem State.setWriteLatch_oamByte (i : Nat) : (s.setWriteLatch b).oamByte i = s.oamByte i := rfl
end

section
variable (s : State) (p : Port) (v : Byte)
@[simp] theorem State.setButtons_params : (s.setButtons p v).params = s.params := rfl
@[simp] theorem State.setButtons_cpuMem0 : (s.setButtons p v).cpuMem0 = s.cpuMem0 := rfl
@[simp] theorem State.setButtons_vram0 : (s.setButtons p v).vram0 = s.vram0 := rfl
@[simp] theorem State.setButtons_cpuMem : (s.setButtons p v).cpuMem = s.cpuMem := rfl
@[simp] theorem State.setButtons_vram : (s.setButtons p v).vram = s.vram := rfl
@[simp] theorem State.setButtons_oam : (s.setButtons p v).oam = s.oam := rfl
@[simp] theorem State.setButtons_control : (s.setButtons p v).control = s.control := rfl
@[simp] theorem State.setButtons_mask : (s.setButtons p v).mask = s.mask := rfl
@[simp] theorem State.setButtons_status : (s.setButtons p v).status = s.status := rfl
@[simp] theorem State.setButtons_oamAddr : (s.setButtons p v).oamAddr = s.oamAddr := rfl
@[simp] theorem State.setButtons_vramAddr : (s.setButtons p v).vramAddr = s.vramAddr := rfl
@[simp] theorem State.setButtons_writeLatch : (s.setButtons p v).writeLatch = s.writeLatch := rfl
@[simp] theorem State.setButtons_scrollX : (s.setButtons p v).scrollX = s.scrollX := rfl
@[simp] theorem State.setButtons_scrollY : (s.setButtons p v).scrollY = s.scrollY := rfl
@[simp] theorem State.setButtons_buttons : (s.setButtons p v).buttons = s.buttons.set p.val v p.isLt := rfl
@[simp] theorem State.setButtons_currentBit : (s.setButtons p v).currentBit = s.currentBit := rfl
@[simp] theorem State.setButtons_controllerLatch : (s.setButtons p v).controllerLatch = s.controllerLatch := rfl
@[simp] theorem State.setButtons_composite : (s.setButtons p v).composite = s.composite := rfl
@[simp] theorem State.setButtons_frame : (s.setButtons p v).frame = s.frame := rfl
@[simp] theorem State.setButtons_diag : (s.setButtons p v).diag = s.diag := rfl
@[simp] theorem State.setButtons_refused : (s.setButtons p v).refused = s.refused := rfl
@[simp] theorem State.setButtons_faulted : (s.setButtons p v).faulted = s.faulted := rfl
@[simp] theorem State.setButtons_result : (s.setButtons p v).result = s.result := rfl
@[simp] theorem State.setButtons_draws : (s.setButtons p v).draws = s.draws := rfl
@[simp] theorem State.setButtons_pending : (s.setButtons p v).pending = s.pending := rfl
@[simp] theorem State.setButtons_cpuByte (i : Addr) : (s.setButtons p v).cpuByte i = s.cpuByte i := rfl
@[simp] theorem State.setButtons_vramByte (i : Nat) : (s.setButtons p v).vramByte i = s.vramByte i := rfl
@[simp] theorem State.setButtons_video : (s.setButtons p v).video = s.video := rfl
@[simp] theorem State.setButtons_oamByte (i : Nat) : (s.setButtons p v).oamByte i = s.oamByte i := rfl
end

section
variable (s : State) (p : Port) (v : Byte)
@[simp] theorem State.setCurrentBit_params : (s.setCurrentBit p v).params = s.params := rfl
@[simp] theorem State.setCurrentBit_cpuMem0 : (s.setCurrentBit p v).cpuMem0 = s.cpuMem0 := rfl
@[simp] theorem State.setCurrentBit_vram0 : (s.setCurrentBit p v).vram0 = s.vram0 := rfl
@[simp] theorem State.setCurrentBit_cpuMem : (s.setCurrentBit p v).cpuMem = s.cpuMem := rfl
@[simp] theorem State.setCurrentBit_vram : (s.setCurrentBit p v).vram = s.vram := rfl
@[simp] theorem State.setCurrentBit_oam : (s.setCurrentBit p v).oam = s.oam := rfl
@[simp] theorem State.setCurrentBit_control : (s.setCurrentBit p v).control = s.control := rfl
@[simp] theorem State.setCurrentBit_mask : (s.setCurrentBit p v).mask = s.mask := rfl
@[simp] theorem State.setCurrentBit_status : (s.setCurrentBit p v).status = s.status := rfl
@[simp] theorem State.setCurrentBit_oamAddr : (s.setCurrentBit p v).oamAddr = s.oamAddr := rfl
@[simp] theorem State.setCurrentBit_vramAddr : (s.setCurrentBit p v).vramAddr = s.vramAddr := rfl
@[simp] theorem State.setCurrentBit_writeLatch : (s.setCurrentBit p v).writeLatch = s.writeLatch := rfl
@[simp] theorem State.setCurrentBit_scrollX : (s.setCurrentBit p v).scrollX = s.scrollX := rfl
@[simp] theorem State.setCurrentBit_scrollY : (s.setCurrentBit p v).scrollY = s.scrollY := rfl
@[simp] theorem State.setCurrentBit_buttons : (s.setCurrentBit p v).buttons = s.buttons := rfl
@[simp] theorem State.setCurrentBit_currentBit : (s.setCurrentBit p v).currentBit = s.currentBit.set p.val v p.isLt := rfl
@[simp] theorem State.setCurrentBit_controllerLatch : (s.setCurrentBit p v).controllerLatch = s.controllerLatch := rfl
@[simp] theorem State.setCurrentBit_composite : (s.setCurrentBit p v).composite = s.composite := rfl
@[simp] theorem State.setCurrentBit_frame : (s.setCurrentBit p v).frame = s.frame := rfl
@[simp] theorem State.setCurrentBit_diag : (s.setCurrentBit p v).diag = s.diag := rfl
@[simp] theorem State.setCurrentBit_refused : (s.setCurrentBit p v).refused = s.refused := rfl
@[simp] theorem State.setCurrentBit_faulted : (s.setCurrentBit p v).faulted = s.faulted := rfl
@[simp] theorem State.setCurrentBit_result : (s.setCurrentBit p v).result = s.result := rfl
@[simp] theorem State.setCurrentBit_draws : (s.setCurrentBit p v).draws = s.draws := rfl
@[simp] theorem State.setCurrentBit_pending : (s.setCurrentBit p v).pending = s.pending := rfl
@[simp] theorem State.setCurrentBit_cpuByte (i : Addr) : (s.setCurrentBit p v).cpuByte i = s.cpuByte i := rfl
@[simp] theorem State.setCurrentBit_vramByte (i : Nat) : (s.setCurrentBit p v).vramByte i = s.vramByte i := rfl
@[simp] theorem State.setCurrentBit_video : (s.setCurrentBit p v).video = s.video := rfl
@[simp] theorem State.setCurrentBit_oamByte (i : Nat) : (s.setCurrentBit p v).oamByte i = s.oamByte i := rfl
end

section
variable (s : State) (b : Bool)
@[simp] theorem State.setControllerLatch_params : (s.setControllerLatch b).params = s.params := rfl
@[simp] theorem State.setControllerLatch_cpuMem0 : (s.setControllerLatch b).cpuMem0 = s.cpuMem0 := rfl
@[simp] theorem State.setControllerLatch_vram0 : (s.setControllerLatch b).vram0 = s.vram0 := rfl
@[simp] theorem State.setControllerLatch_cpuMem : (s.setControllerLatch b).cpuMem = s.cpuMem := rfl
@[simp] theorem State.setControllerLatch_vram : (s.setControllerLatch b).vram = s.vram := rfl
@[simp] theorem State.setControllerLatch_oam : (s.setControllerLatch b).oam = s.oam := rfl
@[simp] theorem State.setControllerLatch_control : (s.setControllerLatch b).control = s.control := rfl
@[simp] theorem State.setControllerLatch_mask : (s.setControllerLatch b).mask = s.mask := rfl
@[simp] theorem State.setControllerLatch_status : (s.setControllerLatch b).status = s.status := rfl
@[simp] theorem State.setControllerLatch_oamAddr : (s.setControllerLatch b).oamAddr = s.oamAddr := rfl
@[simp] theorem State.setControllerLatch_vramAddr : (s.setControllerLatch b).vramAddr = s.vramAddr := rfl
@[simp] theorem State.setControllerLatch_writeLatch : (s.setControllerLatch b).writeLatch = s.writeLatch := rfl
@[simp] theorem State.setControllerLatch_scrollX : (s.setControllerLatch b).scrollX = s.scrollX := rfl
@[simp] theorem State.setControllerLatch_scrollY : (s.setControllerLatch b).scrollY = s.scrollY := rfl
@[simp] theorem State.setControllerLatch_buttons : (s.setControllerLatch b).buttons = s.buttons := rfl
@[simp] theorem State.setControllerLatch_currentBit : (s.setControllerLatch b).currentBit = s.currentBit := rfl
@[simp] theorem State.setControllerLatch_controllerLatch : (s.setControllerLatch b).controllerLatch = b := rfl
@[simp] theorem State.setControllerLatch_composite : (s.setControllerLatch b).composite = s.composite := rfl
@[simp] theorem State.setControllerLatch_frame : (s.setControllerLatch b).frame = s.frame := rfl
@[simp] theorem State.setControllerLatch_diag : (s.setControllerLatch b).diag = s.diag := rfl
@[simp] theorem State.setControllerLatch_refused : (s.setControllerLatch b).refused = s.refused := rfl
@[simp] theorem State.setControllerLatch_faulted : (s.setControllerLatch b).faulted = s.faulted := rfl
@[simp] theorem State.setControllerLatch_result : (s.setControllerLatch b).result = s.result := rfl
@[simp] theorem State.setControllerLatch_draws : (s.setControllerLatch b).draws = s.draws := rfl
@[simp] theorem State.setControllerLatch_pending : (s.setControllerLatch b).pending = s.pending := rfl
@[simp] theorem State.setControllerLatch_cpuByte (i : Addr) : (s.setControllerLatch b).cpuByte i = s.cpuByte i := rfl
@[simp] theorem State.setControllerLatch_vramByte (i : Nat) : (s.setControllerLatch b).vramByte i = s.vramByte i := rfl
@[simp] theorem State.setControllerLatch_video : (s.setControllerLatch b).video = s.video := rfl
@[simp] theorem State.setControllerLatch_oamByte (i : Nat) : (s.setControllerLatch b).oamByte i = s.oamByte i := rfl
end

section
variable (s : State) (c : Surface Config.compositeWidth Config.compositeHeight)
@[simp] theorem State.setComposite_params : (s.setComposite c).params = s.params := rfl
@[simp] theorem State.setComposite_cpuMem0 : (s.setComposite c).cpuMem0 = s.cpuMem0 := rfl
@[simp] theorem State.setComposite_vram0 : (s.setComposite c).vram0 = s.vram0 := rfl
@[simp] theorem State.setComposite_cpuMem : (s.setComposite c).cpuMem = s.cpuMem := rfl
@[simp] theorem State.setComposite_vram : (s.setComposite c).vram = s.vram := rfl
@[simp] theorem State.setComposite_oam : (s.setComposite c).oam = s.oam := rfl
@[simp] theorem State.setComposite_control : (s.setComposite c).control = s.control := rfl
@[simp] theorem State.setComposite_mask : (s.setComposite c).mask = s.mask := rfl
@[simp] theorem State.setComposite_status : (s.setComposite c).status = s.status := rfl
@[simp] theorem State.setComposite_oamAddr : (s.setComposite c).oamAddr = s.oamAddr := rfl
@[simp] theorem State.setComposite_vramAddr : (s.setComposite c).vramAddr = s.vramAddr := rfl
@[simp] theorem State.setComposite_writeLatch : (s.setComposite c).writeLatch = s.writeLatch := rfl
@[simp] theorem State.setComposite_scrollX : (s.setComposite c).scrollX = s.scrollX := rfl
@[simp] theorem State.setComposite_scrollY : (s.setComposite c).scrollY = s.scrollY := rfl
@[simp] theorem State.setComposite_buttons : (s.setComposite c).buttons = s.buttons := rfl
@[simp] theorem State.setComposite_currentBit : (s.setComposite c).currentBit = s.currentBit := rfl
@[simp] theorem State.setComposite_controllerLatch : (s.setComposite c).controllerLatch = s.controllerLatch := rfl
@[simp] theorem State.setComposite_composite : (s.setComposite c).composite = c := rfl
@[simp] theorem State.setComposite_frame : (s.setComposite c).frame = s.frame := rfl
@[simp] theorem State.setComposite_diag : (s.setComposite c).diag = s.diag := rfl
@[simp] theorem State.setComposite_refused : (s.setComposite c).refused = s.refused := rfl
@[simp] theorem State.setComposite_faulted : (s.setComposite c).faulted = s.faulted := rfl
@[simp] theorem State.setComposite_result : (s.setComposite c).result = s.result := rfl
@[simp] theorem State.setComposite_draws : (s.setComposite c).draws = s.draws := rfl
@[simp] theorem State.setComposite_pending : (s.setComposite c).pending = s.pending := rfl
@[simp] theorem State.setComposite_cpuByte (i : Addr) : (s.setComposite c).cpuByte i = s.cpuByte i := rfl
@[simp] theorem State.setComposite_vramByte (i : Nat) : (s.setComposite c).vramByte i = s.vramByte i := rfl
@[simp] theorem State.setComposite_video : (s.setComposite c).video = s.video := rfl
@[simp] theorem State.setComposite_oamByte (i : Nat) : (s.setComposite c).oamByte i = s.oamByte i := rfl
end

section
variable (s : State) (c : Surface Config.frameWidth Config.frameHeight)
@[simp] theorem State.setFrame_params : (s.setFrame c).params = s.params := rfl
@[simp] theorem State.setFrame_cpuMem0 : (s.setFrame c).cpuMem0 = s.cpuMem0 := rfl
@[simp] theorem State.setFrame_vram0 : (s.setFrame c).vram0 = s.vram0 := rfl
@[simp] theorem State.setFrame_cpuMem : (s.setFrame c).cpuMem = s.cpuMem := rfl
@[simp] theorem State.setFrame_vram : (s.setFrame c).vram = s.vram := rfl
@[simp] theorem State.setFrame_oam : (s.setFrame c).oam = s.oam := rfl
@[simp] theorem State.setFrame_control : (s.setFrame c).control = s.control := rfl
@[simp] theorem State.setFrame_mask : (s.setFrame c).mask = s.mask := rfl
@[simp] theorem State.setFrame_status : (s.setFrame c).status = s.status := rfl
@[simp] theorem State.setFrame_oamAddr : (s.setFrame c).oamAddr = s.oamAddr := rfl
@[simp] theorem State.setFrame_vramAddr : (s.setFrame c).vramAddr = s.vramAddr := rfl
@[simp] theorem State.setFrame_writeLatch : (s.setFrame c).writeLatch = s.writeLatch := rfl
@[simp] theorem State.setFrame_scrollX : (s.setFrame c).scrollX = s.scrollX := rfl
@[simp] theorem State.setFrame_scrollY : (s.setFrame c).scrollY = s.scrollY := rfl
@[simp] theorem State.setFrame_buttons : (s.setFrame c).buttons = s.buttons := rfl
@[simp] theorem State.setFrame_currentBit : (s.setFrame c).currentBit = s.currentBit := rfl
@[simp] theorem State.setFrame_controllerLatch : (s.setFrame c).controllerLatch = s.controllerLatch := rfl
@[simp] theorem State.setFrame_composite : (s.setFrame c).composite = s.composite := rfl
@[simp] theorem State.setFrame_frame : (s.setFrame c).frame = c := rfl
@[simp] theorem State.setFrame_diag : (s.setFrame c).diag = s.diag := rfl
@[simp] theorem State.setFrame_refused : (s.setFrame c).refused = s.refused := rfl
@[simp] theorem State.setFrame_faulted : (s.setFrame c).faulted = s.faulted := rfl
@[simp] theorem State.setFrame_result : (s.setFrame c).result = s.result := rfl
@[simp] theorem State.setFrame_draws : (s.setFrame c).draws = s.draws := rfl
@[simp] theorem State.setFrame_pending : (s.setFrame c).pending = s.pending := rfl
@[simp] theorem State.setFrame_cpuByte (i : Addr) : (s.setFrame c).cpuByte i = s.cpuByte i := rfl
@[simp] theorem State.setFrame_vramByte (i : Nat) : (s.setFrame c).vramByte i = s.vramByte i := rfl
@[simp] theorem State.setFrame_video : (s.setFrame c).video = s.video := rfl
@[simp] theorem State.setFrame_oamByte (i : Nat) : (s.setFrame c).oamByte i = s.oamByte i := rfl
end

section
variable (s : State) (k : DiagKind) (a : Addr)
@[simp] theorem State.addDiag_params : (s.addDiag k a).params = s.params := rfl
@[simp] theorem State.addDiag_cpuMem0 : (s.addDiag k a).cpuMem0 = s.cpuMem0 := rfl
@[simp] theorem State.addDiag_vram0 : (s.addDiag k a).vram0 = s.vram0 := rfl
@[simp] theorem State.addDiag_cpuMem : (s.addDiag k a).cpuMem = s.cpuMem := rfl
@[simp] theorem State.addDiag_vram : (s.addDiag k a).vram = s.vram := rfl
@[simp] theorem State.addDiag_oam : (s.addDiag k a).oam = s.oam := rfl
@[simp] theorem State.addDiag_control : (s.addDiag k a).control = s.control := rfl
@[simp] theorem State.addDiag_mask : (s.addDiag k a).mask = s.mask := rfl
@[simp] theorem State.addDiag_status : (s.addDiag k a).status = s.status := rfl
@[simp] theorem State.addDiag_oamAddr : (s.addDiag k a).oamAddr = s.oamAddr := rfl
@[simp] theorem State.addDiag_vramAddr : (s.addDiag k a).vramAddr = s.vramAddr := rfl
@[simp] theorem State.addDiag_writeLatch : (s.addDiag k a).writeLatch = s.writeLatch := rfl
@[simp] theorem State.addDiag_scrollX : (s.addDiag k a).scrollX = s.scrollX := rfl
@[simp] theorem State.addDiag_scrollY : (s.addDiag k a).scrollY = s.scrollY := rfl
@[simp] theorem State.addDiag_buttons : (s.addDiag k a).buttons = s.buttons := rfl
@[simp] theorem State.addDiag_currentBit : (s.addDiag k a).currentBit = s.currentBit := rfl
@[simp] theorem State.addDiag_controllerLatch : (s.addDiag k a).controllerLatch = s.controllerLatch := rfl
@[simp] theorem State.addDiag_composite : (s.addDiag k a).composite = s.composite := rfl
@[simp] theorem State.addDiag_frame : (s.addDiag k a).frame = s.frame := rfl
@[simp] theorem State.addDiag_diag : (s.addDiag k a).diag = s.diag ++ [⟨k, a⟩] := rfl
@[simp] theorem State.addDiag_refused : (s.addDiag k a).refused = s.refused := rfl
@[simp] theorem State.addDiag_faulted : (s.addDiag k a).faulted = s.faulted := rfl
@[simp] theorem State.addDiag_result : (s.addDiag k a).result = s.result := rfl
@[simp] theorem State.addDiag_draws : (s.addDiag k a).draws = s.draws := rfl
@[simp] theorem State.addDiag_pending : (s.addDiag k a).pending = s.pending := rfl
@[simp] theorem State.addDiag_cpuByte (i : Addr) : (s.addDiag k a).cpuByte i = s.cpuByte i := rfl
@[simp] theorem State.addDiag_vramByte (i : Nat) : (s.addDiag k a).vramByte i = s.vramByte i := rfl
@[simp] theorem State.addDiag_video : (s.addDiag k a).video = s.video := rfl
@[simp] theorem State.addDiag_oamByte (i : Nat) : (s.addDiag k a).oamByte i = s.oamByte i := rfl
end

section
variable (s : State)
@[simp] theorem State.markRefused_params : (s.markRefused).params = s.params := rfl
@[simp] theorem State.markRefused_cpuMem0 : (s.markRefused).cpuMem0 = s.cpuMem0 := rfl
@[simp] theorem State.markRefused_vram0 : (s.markRefused).vram0 = s.vram0 := rfl
@[simp] theorem State.markRefused_cpuMem : (s.markRefused).cpuMem = s.cpuMem := rfl
@[simp] theorem State.markRefused_vram : (s.markRefused).vram = s.vram := rfl
@[simp] theorem State.markRefused_oam : (s.markRefused).oam = s.oam := rfl
@[simp] theorem State.markRefused_control : (s.markRefused).control = s.control := rfl
@[simp] theorem State.markRefused_mask : (s.markRefused).mask = s.mask := rfl
@[simp] theorem State.markRefused_status : (s.markRefused).status = s.status := rfl
@[simp] theorem State.markRefused_oamAddr : (s.markRefused).oamAddr = s.oamAddr := rfl
@[simp] theorem State.markRefused_vramAddr : (s.markRefused).vramAddr = s.vramAddr := rfl
@[simp] theorem State.markRefused_writeLatch : (s.markRefused).writeLatch = s.writeLatch := rfl
@[simp] theorem State.markRefused_scrollX : (s.markRefused).scrollX = s.scrollX := rfl
@[simp] theorem State.markRefused_scrollY : (s.markRefused).scrollY = s.scrollY := rfl
@[simp] theorem State.markRefused_buttons : (s.markRefused).buttons = s.buttons := rfl
@[simp] theorem State.markRefused_currentBit : (s.markRefused).currentBit = s.currentBit := rfl
@[simp] theorem State.markRefused_controllerLatch : (s.markRefused).controllerLatch = s.controllerLatch := rfl
@[simp] theorem State.markRefused_composite : (s.markRefused).composite = s.composite := rfl
@[simp] theorem State.markRefused_frame : (s.markRefused).frame = s.frame := rfl
@[simp] theorem State.markRefused_diag : (s.markRefused).diag = s.diag := rfl
@[simp] theorem State.markRefused_refused : (s.markRefused).refused = true := rfl
@[simp] theorem State.markRefused_faulted : (s.markRefused).faulted = s.faulted := rfl
@[simp] theorem State.markRefused_result : (s.markRefused).result = s.result := rfl
@[simp] theorem State.markRefused_draws : (s.markRefused).draws = s.draws := rfl
@[simp] theorem State.markRefused_pending : (s.markRefused).pending = s.pending := rfl
@[simp] theorem State.markRefused_cpuByte (i : Addr) : (s.markRefused).cpuByte i = s.cpuByte i := rfl
@[simp] theorem State.markRefused_vramByte (i : Nat) : (s.markRefused).vramByte i = s.vramByte i := rfl
@[simp] theorem State.markRefused_video : (s.markRefused).video = s.video := rfl
@[simp] theorem State.markRefused_oamByte (i : Nat) : (s.markRefused).oamByte i = s.oamByte i := rfl
end

section
variable (s : State)
@[simp] theorem State.markFaulted_params : (s.markFaulted).params = s.params := rfl
@[simp] theorem State.markFaulted_cpuMem0 : (s.markFaulted).cpuMem0 = s.cpuMem0 := rfl
@[simp] theorem State.markFaulted_vram0 : (s.markFaulted).vram0 = s.vram0 := rfl
@[simp] theorem State.markFaulted_cpuMem : (s.markFaulted).cpuMem = s.cpuMem := rfl
@[simp] theorem State.markFaulted_vram : (s.markFaulted).vram = s.vram := rfl
@[simp] theorem State.markFaulted_oam : (s.markFaulted).oam = s.oam := rfl
@[simp] theorem State.markFaulted_control : (s.markFaulted).control = s.control := rfl
@[simp] theorem State.markFaulted_mask : (s.markFaulted).mask = s.mask := rfl
@[simp] theorem State.markFaulted_status : (s.markFaulted).status = s.status := rfl
@[simp] theorem State.markFaulted_oamAddr : (s.markFaulted).oamAddr = s.oamAddr := rfl
@[simp] theorem State.markFaulted_vramAddr : (s.markFaulted).vramAddr = s.vramAddr := rfl
@[simp] theorem State.markFaulted_writeLatch : (s.markFaulted).writeLatch = s.writeLatch := rfl
@[simp] theorem State.markFaulted_scrollX : (s.markFaulted).scrollX = s.scrollX := rfl
@[simp] theorem State.markFaulted_scrollY : (s.markFaulted).scrollY = s.scrollY := rfl
@[simp] theorem State.markFaulted_buttons : (s.markFaulted).buttons = s.buttons := rfl
@[simp] theorem State.markFaulted_currentBit : (s.markFaulted).currentBit = s.currentBit := rfl
@[simp] theorem State.markFaulted_controllerLatch : (s.markFaulted).controllerLatch = s.controllerLatch := rfl
@[simp] theorem State.markFaulted_composite : (s.markFaulted).composite = s.composite := rfl
@[simp] theorem State.markFaulted_frame : (s.markFaulted).frame = s.frame := rfl
@[simp] theorem State.markFaulted_diag : (s.markFaulted).diag = s.diag := rfl
@[simp] theorem State.markFaulted_refused : (s.markFaulted).refused = s.refused := rfl
@[simp] theorem State.markFaulted_faulted : (s.markFaulted).faulted = true := rfl
@[simp] theorem State.markFaulted_result : (s.markFaulted).result = s.result := rfl
@[simp] theorem State.markFaulted_draws : (s.markFaulted).draws = s.draws := rfl
@[simp] theorem State.markFaulted_pending : (s.markFaulted).pending = s.pending := rfl
@[simp] theorem State.markFaulted_cpuByte (i : Addr) : (s.markFaulted).cpuByte i = s.cpuByte i := rfl
@[simp] theorem State.markFaulted_vramByte (i : Nat) : (s.markFaulted).vramByte i = s.vramByte i := rfl
@[simp] theorem State.markFaulted_video : (s.markFaulted).video = s.video := rfl
@[simp] theorem State.markFaulted_oamByte (i : Nat) : (s.markFaulted).oamByte i = s.oamByte i := rfl
end

section
variable (s : State) (r : Option Byte)
@[simp] theorem State.setResult_params : (s.setResult r).params = s.params := rfl
@[simp] theorem State.setResult_cpuMem0 : (s.setResult r).cpuMem0 = s.cpuMem0 := rfl
@[simp] theorem State.setResult_vram0 : (s.setResult r).vram0 = s.vram0 := rfl
@[simp] theorem State.setResult_cpuMem : (s.setResult r).cpuMem = s.cpuMem := rfl
@[simp] theorem State.setResult_vram : (s.setResult r).vram = s.vram := rfl
@[simp] theorem State.setResult_oam : (s.setResult r).oam = s.oam := rfl
@[simp] theorem State.setResult_control : (s.setResult r).control = s.control := rfl
@[simp] theorem State.setResult_mask : (s.setResult r).mask = s.mask := rfl
@[simp] theorem State.setResult_status : (s.setResult r).status = s.status := rfl
@[simp] theorem State.setResult_oamAddr : (s.setResult r).oamAddr = s.oamAddr := rfl
@[simp] theorem State.setResult_vramAddr : (s.setResult r).vramAddr = s.vramAddr := rfl
@[simp] theorem State.setResult_writeLatch : (s.setResult r).writeLatch = s.writeLatch := rfl
@[simp] theorem State.setResult_scrollX : (s.setResult r).scrollX = s.scrollX := rfl
@[simp] theorem State.setResult_scrollY : (s.setResult r).scrollY = s.scrollY := rfl
@[simp] theorem State.setResult_buttons : (s.setResult r).buttons = s.buttons := rfl
@[simp] theorem State.setResult_currentBit : (s.setResult r).currentBit = s.currentBit := rfl
@[simp] theorem State.setResult_controllerLatch : (s.setResult r).controllerLatch = s.controllerLatch := rfl
@[simp] theorem State.setResult_composite : (s.setResult r).composite = s.composite := rfl
@[simp] theorem State.setResult_frame : (s.setResult r).frame = s.frame := rfl
@[simp] theorem State.setResult_diag : (s.setResult r).diag = s.diag := rfl
@[simp] theorem State.setResult_refused : (s.setResult r).refused = s.refused := rfl
@[simp] theorem State.setResult_faulted : (s.setResult r).faulted = s.faulted := rfl
@[simp] theorem State.setResult_result : (s.setResult r).result = r := rfl
@[simp] theorem State.setResult_draws : (s.setResult r).draws = s.draws := rfl
@[simp] theorem State.setResult_pending : (s.setResult r).pending = s.pending := rfl
@[simp] theorem State.setResult_cpuByte (i : Addr) : (s.setResult r).cpuByte i = s.cpuByte i := rfl
@[simp] theorem State.setResult_vramByte (i : Nat) : (s.setResult r).vramByte i = s.vramByte i := rfl
@[simp] theorem State.setResult_video : (s.setResult r).video = s.video := rfl
@[simp] theorem State.setResult_oamByte (i : Nat) : (s.setResult r).oamByte i = s.oamByte i := rfl
end

section
variable (s : State) (n : Nat)
@[simp] theorem State.advanceDraws_params : (s.advanceDraws n).params = s.params := rfl
@[simp] theorem State.advanceDraws_cpuMem0 : (s.advanceDraws n).cpuMem0 = s.cpuMem0 := rfl
@[simp] theorem State.advanceDraws_vram0 : (s.advanceDraws n).vram0 = s.vram0 := rfl
@[simp] theorem State.advanceDraws_cpuMem : (s.advanceDraws n).cpuMem = s.cpuMem := rfl
@[simp] theorem State.advanceDraws_vram : (s.advanceDraws n).vram = s.vram := rfl
@[simp] theorem State.advanceDraws_oam : (s.advanceDraws n).oam = s.oam := rfl
@[simp] theorem State.advanceDraws_control : (s.advanceDraws n).control = s.control := rfl
@[simp] theorem State.advanceDraws_mask : (s.advanceDraws n).mask = s.mask := rfl
@[simp] theorem State.advanceDraws_status : (s.advanceDraws n).status = s.status := rfl
@[simp] theorem State.advanceDraws_oamAddr : (s.advanceDraws n).oamAddr = s.oamAddr := rfl
@[simp] theorem State.advanceDraws_vramAddr : (s.advanceDraws n).vramAddr = s.vramAddr := rfl
@[simp] theorem State.advanceDraws_writeLatch : (s.advanceDraws n).writeLatch = s.writeLatch := rfl
@[simp] theorem State.advanceDraws_scrollX : (s.advanceDraws n).scrollX = s.scrollX := rfl
@[simp] theorem State.advanceDraws_scrollY : (s.advanceDraws n).scrollY = s.scrollY := rfl
@[simp] theorem State.advanceDraws_buttons : (s.advanceDraws n).buttons = s.buttons := rfl
@[simp] theorem State.advanceDraws_currentBit : (s.advanceDraws n).currentBit = s.currentBit := rfl
@[simp] theorem State.advanceDraws_controllerLatch : (s.advanceDraws n).controllerLatch = s.controllerLatch := rfl
@[simp] theorem State.advanceDraws_composite : (s.advanceDraws n).composite = s.composite := rfl
@[simp] theorem State.advanceDraws_frame : (s.advanceDraws n).frame = s.frame := rfl
@[simp] theorem State.advanceDraws_diag : (s.advanceDraws n).diag = s.diag := rfl
@[simp] theorem State.advanceDraws_refused : (s.advanceDraws n).refused = s.refused := rfl
@[simp] theorem State.advanceDraws_faulted : (s.advanceDraws n).faulted = s.faulted := rfl
@[simp] theorem State.advanceDraws_result : (s.advanceDraws n).result = s.result := rfl
@[simp] theorem State.advanceDraws_draws : (s.advanceDraws n).draws = s.draws + n := rfl
@[simp] theorem State.advanceDraws_pending : (s.advanceDraws n).pending = s.pending := rfl
@[simp] theorem State.advanceDraws_cpuByte (i : Addr) : (s.advanceDraws n).cpuByte i = s.cpuByte i := rfl
@[simp] theorem State.advanceDraws_vramByte (i : Nat) : (s.advanceDraws n).vramByte i = s.vramByte i := rfl
@[simp] theorem State.advanceDraws_video : (s.advanceDraws n).video = s.video := rfl
@[simp] theorem State.advanceDraws_oamByte (i : Nat) : (s.advanceDraws n).oamByte i = s.oamByte i := rfl
end

section
variable (s : State) (ws : List OpWord)
@[simp] theorem State.setPending_params : (s.setPending ws).params = s.params := rfl
@[simp] theorem State.setPending_cpuMem0 : (s.setPending ws).cpuMem0 = s.cpuMem0 := rfl
@[simp] theorem State.setPending_vram0 : (s.setPending ws).vram0 = s.vram0 := rfl
@[simp] theorem State.setPending_cpuMem : (s.setPending ws).cpuMem = s.cpuMem := rfl
@[simp] theorem State.setPending_vram : (s.setPending ws).vram = s.vram := rfl
@[simp] theorem State.setPending_oam : (s.setPending ws).oam = s.oam := rfl
@[simp] theorem State.setPending_control : (s.setPending ws).control = s.control := rfl
@[simp] theorem State.setPending_mask : (s.setPending ws).mask = s.mask := rfl
@[simp] theorem State.setPending_status : (s.setPending ws).status = s.status := rfl
@[simp] theorem State.setPending_oamAddr : (s.setPending ws).oamAddr = s.oamAddr := rfl
@[simp] theorem State.setPending_vramAddr : (s.setPending ws).vramAddr = s.vramAddr := rfl
@[simp] theorem State.setPending_writeLatch : (s.setPending ws).writeLatch = s.writeLatch := rfl
@[simp] theorem State.setPending_scrollX : (s.setPending ws).scrollX = s.scrollX := rfl
@[simp] theorem State.setPending_scrollY : (s.setPending ws).scrollY = s.scrollY := rfl
@[simp] theorem State.setPending_buttons : (s.setPending ws).buttons = s.buttons := rfl
@[simp] theorem State.setPending_currentBit : (s.setPending ws).currentBit = s.currentBit := rfl
@[simp] theorem State.setPending_controllerLatch : (s.setPending ws).controllerLatch = s.controllerLatch := rfl
@[simp] theorem State.setPending_composite : (s.setPending ws).composite = s.composite := rfl
@[simp] theorem State.setPending_frame : (s.setPending ws).frame = s.frame := rfl
@[simp] theorem State.setPending_diag : (s.setPending ws).diag = s.diag := rfl
@[simp] theorem State.setPending_refused : (s.setPending ws).refused = s.refused := rfl
@[simp] theorem State.setPending_faulted : (s.setPending ws).faulted = s.faulted := rfl
@[simp] theorem State.setPending_result : (s.setPending ws).result = s.result := rfl
@[simp] theorem State.setPending_draws : (s.setPending ws).draws = s.draws := rfl
@[simp] theorem State.setPending_pending : (s.setPending ws).pending = ws := rfl
@[simp] theorem State.setPending_cpuByte (i : Addr) : (s.setPending ws).cpuByte i = s.cpuByte i := rfl
@[simp] theorem State.setPending_vramByte (i : Nat) : (s.setPending ws).vramByte i = s.vramByte i := rfl
@[simp] theorem State.setPending_video : (s.setPending ws).video = s.video := rfl
@[simp] theorem State.setPending_oamByte (i : Nat) : (s.setPending ws).oamByte i = s.oamByte i := rfl
end

section
variable (s : State) (a : Addr) (v : Byte)
@[simp] theorem State.writeCpuByte_params : (s.writeCpuByte a v).params = s.params := rfl
@[simp] theorem State.writeCpuByte_cpuMem0 : (s.writeCpuByte a v).cpuMem0 = s.cpuMem0 := rfl
@[simp] theorem State.writeCpuByte_vram0 : (s.writeCpuByte a v).vram0 = s.vram0 := rfl
@[simp] theorem State.writeCpuByte_cpuMem : (s.writeCpuByte a v).cpuMem = s.cpuMem.write a.toNat v := rfl
@[simp] theorem State.writeCpuByte_vram : (s.writeCpuByte a v).vram = s.vram := rfl
@[simp] theorem State.writeCpuByte_oam : (s.writeCpuByte a v).oam = s.oam := rfl
@[simp] theorem State.writeCpuByte_control : (s.writeCpuByte a v).control = s.control := rfl
@[simp] theorem State.writeCpuByte_mask : (s.writeCpuByte a v).mask = s.mask := rfl
@[simp] theorem State.writeCpuByte_status : (s.writeCpuByte a v).status = s.status := rfl
@[simp] theorem State.writeCpuByte_oamAddr : (s.writeCpuByte a v).oamAddr = s.oamAddr := rfl
@[simp] theorem State.writeCpuByte_vramAddr : (s.writeCpuByte a v).vramAddr = s.vramAddr := rfl
@[simp] theorem State.writeCpuByte_writeLatch : (s.writeCpuByte a v).writeLatch = s.writeLatch := rfl
@[simp] theorem State.writeCpuByte_scrollX : (s.writeCpuByte a v).scrollX = s.scrollX := rfl
@[simp] theorem State.writeCpuByte_scrollY : (s.writeCpuByte a v).scrollY = s.scrollY := rfl
@[simp] theorem State.writeCpuByte_buttons : (s.writeCpuByte a v).buttons = s.buttons := rfl
@[simp] theorem State.writeCpuByte_currentBit : (s.writeCpuByte a v).currentBit = s.currentBit := rfl
@[simp] theorem State.writeCpuByte_controllerLatch : (s.writeCpuByte a v).controllerLatch = s.controllerLatch := rfl
@[simp] theorem State.writeCpuByte_composite : (s.writeCpuByte a v).composite = s.composite := rfl
@[simp] theorem State.writeCpuByte_frame : (s.writeCpuByte a v).frame = s.frame := rfl
@[simp] theorem State.writeCpuByte_diag : (s.writeCpuByte a v).diag = s.diag := rfl
@[simp] theorem State.writeCpuByte_refused : (s.writeCpuByte a v).refused = s.refused := rfl
@[simp] theorem State.writeCpuByte_faulted : (s.writeCpuByte a v).faulted = s.faulted := rfl
@[simp] theorem State.writeCpuByte_result : (s.writeCpuByte a v).result = s.result := rfl
@[simp] theorem State.writeCpuByte_draws : (s.writeCpuByte a v).draws = s.draws := rfl
@[simp] theorem State.writeCpuByte_pending : (s.writeCpuByte a v).pending = s.pending := rfl
@[simp] theorem State.writeCpuByte_vramByte (i : Nat) : (s.writeCpuByte a v).vramByte i = s.vramByte i := rfl
@[simp] theorem State.writeCpuByte_video : (s.writeCpuByte a v).video = s.video := rfl
@[simp] theorem State.writeCpuByte_oamByte (i : Nat) : (s.writeCpuByte a v).oamByte i = s.oamByte i := rfl
end

section
variable (s : State) (k : Nat) (v : Byte)
@[simp] theorem State.writeVramByte_params : (s.writeVramByte k v).params = s.params := rfl
@[simp] theorem State.writeVramByte_cpuMem0 : (s.writeVramByte k v).cpuMem0 = s.cpuMem0 := rfl
@[simp] theorem State.writeVramByte_vram0 : (s.writeVramByte k v).vram0 = s.vram0 := rfl
@[simp] theorem State.writeVramByte_cpuMem : (s.writeVramByte k v).cpuMem = s.cpuMem := rfl
@[simp] theorem State.writeVramByte_vram : (s.writeVramByte k v).vram = s.vram.write k v := rfl
@[simp] theorem State.writeVramByte_oam : (s.writeVramByte k v).oam = s.oam := rfl
@[simp] theorem State.writeVramByte_control : (s.writeVramByte k v).control = s.control := rfl
@[simp] theorem State.writeVramByte_mask : (s.writeVramByte k v).mask = s.mask := rfl
@[simp] theorem State.writeVramByte_status : (s.writeVramByte k v).status = s.status := rfl
@[simp] theorem State.writeVramByte_oamAddr : (s.writeVramByte k v).oamAddr = s.oamAddr := rfl
@[simp] theorem State.writeVramByte_vramAddr : (s.writeVramByte k v).vramAddr = s.vramAddr := rfl
@[simp] theorem State.writeVramByte_writeLatch : (s.writeVramByte k v).writeLatch = s.writeLatch := rfl
@[simp] theorem State.writeVramByte_scrollX : (s.writeVramByte k v).scrollX = s.scrollX := rfl
@[simp] theorem State.writeVramByte_scrollY : (s.writeVramByte k v).scrollY = s.scrollY := rfl
@[simp] theorem State.writeVramByte_buttons : (s.writeVramByte k v).buttons = s.buttons := rfl
@[simp] theorem State.writeVramByte_currentBit : (s.writeVramByte k v).currentBit = s.currentBit := rfl
@[simp] theorem State.writeVramByte_controllerLatch : (s.writeVramByte k v).controllerLatch = s.controllerLatch := rfl
@[simp] theorem State.writeVramByte_composite : (s.writeVramByte k v).composite = s.composite := rfl
@[simp] theorem State.writeVramByte_frame : (s.writeVramByte k v).frame = s.frame := rfl
@[simp] theorem State.writeVramByte_diag : (s.writeVramByte k v).diag = s.diag := rfl
@[simp] theorem State.writeVramByte_refused : (s.writeVramByte k v).refused = s.refused := rfl
@[simp] theorem State.writeVramByte_faulted : (s.writeVramByte k v).faulted = s.faulted := rfl
@[simp] theorem State.writeVramByte_result : (s.writeVramByte k v).result = s.result := rfl
@[simp] theorem State.writeVramByte_draws : (s.writeVramByte k v).draws = s.draws := rfl
@[simp] theorem State.writeVramByte_pending : (s.writeVramByte k v).pending = s.pending := rfl
@[simp] theorem State.writeVramByte_cpuByte (i : Addr) : (s.writeVramByte k v).cpuByte i = s.cpuByte i := rfl
@[simp] theorem State.writeVramByte_oamByte (i : Nat) : (s.writeVramByte k v).oamByte i = s.oamByte i := rfl
end

section
variable (s : State) (k : Nat) (v : Byte)
@[simp] theorem State.writeOamByte_params : (s.writeOamByte k v).params = s.params := by unfold State.writeOamByte; split <;> rfl
@[simp] theorem State.writeOamByte_cpuMem0 : (s.writeOamByte k v).cpuMem0 = s.cpuMem0 := by unfold State.writeOamByte; split <;> rfl
@[simp] theorem State.writeOamByte_vram0 : (s.writeOamByte k v).vram0 = s.vram0 := by unfold State.writeOamByte; split <;> rfl
@[simp] theorem State.writeOamByte_cpuMem : (s.writeOamByte k v).cpuMem = s.cpuMem := by unfold State.writeOamByte; split <;> rfl
@[simp] theorem State.writeOamByte_vram : (s.writeOamByte k v).vram = s.vram := by unfold State.writeOamByte; split <;> rfl
@[simp] theorem State.writeOamByte_control : (s.writeOamByte k v).control = s.control := by unfold State.writeOamByte; split <;> rfl
@[simp] theorem State.writeOamByte_mask : (s.writeOamByte k v).mask = s.mask := by unfold State.writeOamByte; split <;> rfl
@[simp] theorem State.writeOamByte_status : (s.writeOamByte k v).status = s.status := by unfold State.writeOamByte; split <;> rfl
@[simp] theorem State.writeOamByte_oamAddr : (s.writeOamByte k v).oamAddr = s.oamAddr := by unfold State.writeOamByte; split <;> rfl
@[simp] theorem State.writeOamByte_vramAddr : (s.writeOamByte k v).vramAddr = s.vramAddr := by unfold State.writeOamByte; split <;> rfl
@[simp] theorem State.writeOamByte_writeLatch : (s.writeOamByte k v).writeLatch = s.writeLatch := by unfold State.writeOamByte; split <;> rfl
@[simp] theorem State.writeOamByte_scrollX : (s.writeOamByte k v).scrollX = s.scrollX := by unfold State.writeOamByte; split <;> rfl
@[simp] theorem State.writeOamByte_scrollY : (s.writeOamByte k v).scrollY = s.scrollY := by unfold State.writeOamByte; split <;> rfl
@[simp] theorem State.writeOamByte_buttons : (s.writeOamByte k v).buttons = s.buttons := by unfold State.writeOamByte; split <;> rfl
@[simp] theorem State.writeOamByte_currentBit : (s.writeOamByte k v).currentBit = s.currentBit := by unfold State.writeOamByte; split <;> rfl
@[simp] theorem State.writeOamByte_controllerLatch : (s.writeOamByte k v).controllerLatch = s.controllerLatch := by unfold State.writeOamByte; split <;> rfl
@[simp] theorem State.writeOamByte_composite : (s.writeOamByte k v).composite = s.composite := by unfold State.writeOamByte; split <;> rfl
@[simp] theorem State.writeOamByte_frame : (s.writeOamByte k v).frame = s.frame := by unfold State.writeOamByte; split <;> rfl
@[simp] theorem State.writeOamByte_diag : (s.writeOamByte k v).diag = s.diag := by unfold State.writeOamByte; split <;> rfl
@[simp] theorem State.writeOamByte_refused : (s.writeOamByte k v).refused = s.refused := by unfold State.writeOamByte; split <;> rfl
@[simp] theorem State.writeOamByte_faulted : (s.writeOamByte k v).faulted = s.faulted := by unfold State.writeOamByte; split <;> rfl
@[simp] theorem State.writeOamByte_result : (s.writeOamByte k v).result = s.result := by unfold State.writeOamByte; split <;> rfl
@[simp] theorem State.writeOamByte_draws : (s.writeOamByte k v).draws = s.draws := by unfold State.writeOamByte; split <;> rfl
@[simp] theorem State.writeOamByte_pending : (s.writeOamByte k v).pending = s.pending := by unfold State.writeOamByte; split <;> rfl
@[simp] theorem State.writeOamByte_cpuByte (i : Addr) : (s.writeOamByte k v).cpuByte i = s.cpuByte i := by unfold State.writeOamByte; split <;> rfl
@[simp] theorem State.writeOamByte_vramByte (i : Nat) : (s.writeOamByte k v).vramByte i = s.vramByte i := by unfold State.writeOamByte; split <;> rfl
@[simp] theorem State.writeOamByte_video : (s.writeOamByte k v).video = s.video := by unfold State.writeOamByte; split <;> rfl
end

end Sys2Proof.Machine
end

