-- ==== Sys2Proof/Laws/Surface.lean ====
section
/-! SUPPORT. Reading what was tabulated, stored or drawn. -/

namespace Sys2Proof.Machine

@[simp] theorem getElem_tabulate {α : Type} (n : Nat) (f : Nat → α) (i : Nat) (h : i < n) : (tabulate n f)[i] = f i := by
  change (tabulate n f).toArray[i]'_ = _
  simp [tabulate]

theorem getElem?_tabulate {α : Type} (n : Nat) (f : Nat → α) (i : Nat) :
    (tabulate n f)[i]? = if i < n then some (f i) else none := by
  split
  · rename_i h
    rw [Vector.getElem?_eq_getElem h, getElem_tabulate]
  · rename_i h
    exact Vector.getElem?_eq_none (by omega)

/-- A pixel of a stored canvas. -/
theorem pixelAt_store (w h : Nat) (c : Canvas) (x y : Nat) :
    pixelAt (c.store w h) x y = if x < w ∧ y < h then some (c x y) else none := by
  unfold pixelAt Canvas.store
  rw [getElem?_tabulate]
  by_cases hy : y < h
  · simp [hy, getElem?_tabulate]
  · simp [hy]

theorem pixelAt_store_of_lt {w h : Nat} (c : Canvas) {x y : Nat} (hx : x < w) (hy : y < h) :
    pixelAt (c.store w h) x y = some (c x y) := by
  rw [pixelAt_store, if_pos ⟨hx, hy⟩]

theorem pixelAt_of_lt {w h : Nat} (surf : Surface w h) {x y : Nat} (hx : x < w) (hy : y < h) :
    pixelAt surf x y = some (surfaceCanvas surf x y) := by
  unfold surfaceCanvas pixelAt
  rw [Vector.getElem?_eq_getElem hy, Option.bind_some, Vector.getElem?_eq_getElem hx, Option.getD_some]

/-- Stores of canvases that agree inside the surface are equal. -/
theorem Canvas.store_congr {w h : Nat} {c d : Canvas} (hcd : ∀ x y, x < w → y < h → c x y = d x y) :
    c.store w h = d.store w h := by
  unfold Canvas.store
  ext1 y hy
  rw [getElem_tabulate, getElem_tabulate]
  ext1 x hx
  rw [getElem_tabulate, getElem_tabulate]
  exact hcd x y hx hy

@[simp] theorem Pixel.over_transparent (c : Colour) : Pixel.over .transparent c = c := rfl

@[simp] theorem Pixel.over_solid (c d : Colour) : Pixel.over (.solid c) d = c := rfl

@[simp] theorem Pixel.over_over (p : Pixel) (c : Colour) : p.over (p.over c) = p.over c := by cases p <;> rfl

/-- The pixels of one row put on a canvas. -/
theorem Canvas.foldl_put (f : Canvas) (t : Nat → Pixel) (x y n x' y' : Nat) :
    ((List.range n).foldl (fun g c => g.put (x + c) y (t c)) f) x' y' =
      if y' = y ∧ x ≤ x' ∧ x' < x + n then (t (x' - x)).over (f x' y') else f x' y' := by
  induction n with
  | zero => rw [if_neg (by omega)]; rfl
  | succ n ih =>
    rw [List.range_succ, List.foldl_append, List.foldl_cons, List.foldl_nil, Canvas.put, ih]
    by_cases h : x' = x + n ∧ y' = y
    · rw [if_pos h, if_neg (by omega), if_pos (by omega), show x' - x = n by omega]
    · rw [if_neg h]
      by_cases h2 : y' = y ∧ x ≤ x' ∧ x' < x + n
      · rw [if_pos h2, if_pos (by omega)]
      · rw [if_neg h2, if_neg (by omega)]

/-- The pixels of a rectangle put on a canvas, row by row. -/
theorem Canvas.foldl_foldl_put (f : Canvas) (t : Nat → Nat → Pixel) (x y n m x' y' : Nat) :
    ((List.range n).foldl (fun g r => (List.range m).foldl (fun g c => g.put (x + c) (y + r) (t r c)) g) f) x' y' =
      if y ≤ y' ∧ y' < y + n ∧ x ≤ x' ∧ x' < x + m then (t (y' - y) (x' - x)).over (f x' y') else f x' y' := by
  induction n with
  | zero => rw [if_neg (by omega)]; rfl
  | succ n ih =>
    rw [List.range_succ, List.foldl_append, List.foldl_cons, List.foldl_nil, Canvas.foldl_put _ (t n), ih]
    by_cases h : y' = y + n ∧ x ≤ x' ∧ x' < x + m
    · rw [if_pos h, if_neg (by omega), if_pos (by omega), show y' - y = n by omega]
    · rw [if_neg h]
      by_cases h2 : y ≤ y' ∧ y' < y + n ∧ x ≤ x' ∧ x' < x + m
      · rw [if_pos h2, if_pos (by omega)]
      · rw [if_neg h2, if_neg (by omega)]

/-- Drawing a tile pixel by pixel is drawing it at once (log 8). -/
theorem Canvas.putTile_eq_drawTile (f : Canvas) (t : Nat → Nat → Pixel) (x y : Nat) :
    f.putTile t x y = f.drawTile t x y := by
  funext x' y'
  unfold Canvas.putTile Canvas.drawTile
  rw [Canvas.foldl_foldl_put]
  exact ite_cond_congr (by simp only [eq_iff_iff]; omega)

end Sys2Proof.Machine
end

