-- ==== Sys2Proof/Laws/HostOps.lean ====
section
/-! SUPPORT. What INIT and COMPOSE_FRAME do, field by field. -/

namespace Sys2Proof.Machine

theorem exec_init (s : State) : exec .init s = .next ((initState s).setResult none) := rfl

theorem exec_composeFrame (s : State) : exec .composeFrame s = .next ((composeFrame s).setResult none) := rfl

/-- The frame of a composition: everything but the two surfaces and the count of free values stays. -/
theorem composeFrame_rest (s : State) : composeFrame s =
    ((s.setComposite (composeFrame s).composite).setFrame (composeFrame s).frame).advanceDraws frameDraws := rfl

@[simp] theorem composeFrame_params (s : State) : (composeFrame s).params = s.params := rfl
@[simp] theorem composeFrame_cpuMem0 (s : State) : (composeFrame s).cpuMem0 = s.cpuMem0 := rfl
@[simp] theorem composeFrame_vram0 (s : State) : (composeFrame s).vram0 = s.vram0 := rfl
@[simp] theorem composeFrame_cpuMem (s : State) : (composeFrame s).cpuMem = s.cpuMem := rfl
@[simp] theorem composeFrame_vram (s : State) : (composeFrame s).vram = s.vram := rfl
@[simp] theorem composeFrame_oam (s : State) : (composeFrame s).oam = s.oam := rfl
@[simp] theorem composeFrame_control (s : State) : (composeFrame s).control = s.control := rfl
@[simp] theorem composeFrame_mask (s : State) : (composeFrame s).mask = s.mask := rfl
@[simp] theorem composeFrame_status (s : State) : (composeFrame s).status = s.status := rfl
@[simp] theorem composeFrame_oamAddr (s : State) : (composeFrame s).oamAddr = s.oamAddr := rfl
@[simp] theorem composeFrame_vramAddr (s : State) : (composeFrame s).vramAddr = s.vramAddr := rfl
@[simp] theorem composeFrame_writeLatch (s : State) : (composeFrame s).writeLatch = s.writeLatch := rfl
@[simp] theorem composeFrame_scrollX (s : State) : (composeFrame s).scrollX = s.scrollX := rfl
@[simp] theorem composeFrame_scrollY (s : State) : (composeFrame s).scrollY = s.scrollY := rfl
@[simp] theorem composeFrame_buttons (s : State) : (composeFrame s).buttons = s.buttons := rfl
@[simp] theorem composeFrame_currentBit (s : State) : (composeFrame s).currentBit = s.currentBit := rfl
@[simp] theorem composeFrame_controllerLatch (s : State) : (composeFrame s).controllerLatch = s.controllerLatch := rfl
@[simp] theorem composeFrame_diag (s : State) : (composeFrame s).diag = s.diag := rfl
@[simp] theorem composeFrame_refused (s : State) : (composeFrame s).refused = s.refused := rfl
@[simp] theorem composeFrame_faulted (s : State) : (composeFrame s).faulted = s.faulted := rfl
@[simp] theorem composeFrame_result (s : State) : (composeFrame s).result = s.result := rfl
@[simp] theorem composeFrame_draws (s : State) : (composeFrame s).draws = s.draws + frameDraws := rfl
@[simp] theorem composeFrame_pending (s : State) : (composeFrame s).pending = s.pending := rfl

@[simp] theorem initState_params (s : State) : (initState s).params = s.params := rfl
@[simp] theorem initState_cpuMem0 (s : State) : (initState s).cpuMem0 = s.cpuMem0 := rfl
@[simp] theorem initState_vram0 (s : State) : (initState s).vram0 = s.vram0 := rfl
@[simp] theorem initState_cpuMem (s : State) : (initState s).cpuMem = s.cpuMem0 := rfl
@[simp] theorem initState_vram (s : State) : (initState s).vram = s.vram0 := rfl
@[simp] theorem initState_oam (s : State) : (initState s).oam = tabulate 256 fun _ => 0 := rfl
@[simp] theorem initState_control (s : State) : (initState s).control = 0 := rfl
@[simp] theorem initState_mask (s : State) : (initState s).mask = 0 := rfl
@[simp] theorem initState_status (s : State) : (initState s).status = 0 := rfl
@[simp] theorem initState_oamAddr (s : State) : (initState s).oamAddr = 0 := rfl
@[simp] theorem initState_vramAddr (s : State) : (initState s).vramAddr = 0 := rfl
@[simp] theorem initState_writeLatch (s : State) : (initState s).writeLatch = false := rfl
@[simp] theorem initState_scrollX (s : State) : (initState s).scrollX = 0 := rfl
@[simp] theorem initState_scrollY (s : State) : (initState s).scrollY = 0 := rfl
@[simp] theorem initState_buttons (s : State) : (initState s).buttons = tabulate 2 fun _ => 0 := rfl
@[simp] theorem initState_currentBit (s : State) : (initState s).currentBit = tabulate 2 fun _ => 0 := rfl
@[simp] theorem initState_controllerLatch (s : State) : (initState s).controllerLatch = false := rfl
@[simp] theorem initState_diag (s : State) : (initState s).diag = [] := rfl
@[simp] theorem initState_refused (s : State) : (initState s).refused = s.refused := rfl
@[simp] theorem initState_faulted (s : State) : (initState s).faulted = s.faulted := rfl
@[simp] theorem initState_result (s : State) : (initState s).result = s.result := rfl
@[simp] theorem initState_draws (s : State) : (initState s).draws = s.draws + surfaceDraws := rfl
@[simp] theorem initState_pending (s : State) : (initState s).pending = s.pending := rfl

theorem composeFrame_composite (s : State) :
    (composeFrame s).composite = (compositeCanvas s.video (bgBank s)).store _ _ := rfl

theorem composeFrame_frame (s : State) : (composeFrame s).frame = (frameCanvas s.video s).store _ _ := rfl

theorem pixelAt_composite (s : State) {x y : Nat} (hx : x < 512) (hy : y < 480) :
    pixelAt (composeFrame s).composite x y = some (compositeCanvas s.video (bgBank s) x y) := by
  rw [composeFrame_composite]
  exact pixelAt_store_of_lt _ hx hy

theorem pixelAt_frame (s : State) {x y : Nat} (hx : x < 256) (hy : y < 240) :
    pixelAt (composeFrame s).frame x y = some (frameCanvas s.video s x y) := by
  rw [composeFrame_frame]
  exact pixelAt_store_of_lt _ hx hy

end Sys2Proof.Machine
end

