-- ==== Sys2Proof/Laws/Memory.lean ====
section
/-! SUPPORT. The laws of memory: a read after a write, the canonical form every operation keeps, and equality of
memories that read alike. -/

namespace Sys2Proof.Machine

@[simp] theorem Memory.read_nil (k : Nat) : Memory.read [] k = unlistedByte := rfl

theorem Memory.read_insert (m : Memory) (k : Nat) (v : Byte) (hk : ∀ c ∈ m, c.1 ≠ k) (j : Nat) :
    (Memory.insert k v m).read j = if j = k then v else m.read j := by
  induction m with
  | nil => simp [Memory.insert, Memory.read]
  | cons c m ih =>
    obtain ⟨a, b⟩ := c
    have ha : a ≠ k := hk (a, b) (by simp)
    unfold Memory.insert
    split
    · rfl
    · simp only [Memory.read]
      rw [ih fun c hc => hk c (by simp [hc])]
      by_cases hja : j = a
      · have : j ≠ k := hja ▸ ha
        simp [hja, ha]
      · simp [hja]

theorem Memory.read_erase (m : Memory) (k j : Nat) :
    (m.erase k).read j = if j = k then unlistedByte else m.read j := by
  induction m with
  | nil => simp [Memory.erase, Memory.read]
  | cons c m ih =>
    obtain ⟨a, b⟩ := c
    unfold Memory.erase at ih ⊢
    by_cases hak : a = k
    · subst hak
      rw [List.filter_cons_of_neg (by simp), ih]
      by_cases hj : j = a <;> simp [hj, Memory.read]
    · rw [List.filter_cons_of_pos (by simpa using hak)]
      simp only [Memory.read]
      rw [ih]
      by_cases hja : j = a
      · simp [hja, hak]
      · simp [hja]

theorem Memory.mem_erase {m : Memory} {k : Nat} {c : Host.Cell} : c ∈ m.erase k ↔ c ∈ m ∧ c.1 ≠ k := by
  simp [Memory.erase, List.mem_filter]

/-- Everything a write does, read by read. -/
theorem Memory.read_write (m : Memory) (k : Nat) (v : Byte) (j : Nat) :
    (m.write k v).read j = if j = k then v else m.read j := by
  unfold Memory.write
  split
  · rename_i hv
    rw [Memory.read_erase, hv]
  · rw [Memory.read_insert _ _ _ (fun c hc => (Memory.mem_erase.mp hc).2), Memory.read_erase]
    split <;> rfl

theorem Memory.mem_insert {m : Memory} {k : Nat} {v : Byte} {c : Host.Cell} :
    c ∈ Memory.insert k v m ↔ c = (k, v) ∨ c ∈ m := by
  induction m with
  | nil => simp [Memory.insert]
  | cons d m ih =>
    obtain ⟨a, b⟩ := d
    unfold Memory.insert
    split
    · simp
    · simp only [List.mem_cons, ih]
      tauto

theorem Memory.wf_nil (size : Nat) : Memory.wf size [] := by simp [Memory.wf]

theorem Memory.wf_erase {size : Nat} {m : Memory} (h : m.wf size) (k : Nat) : (m.erase k).wf size :=
  ⟨h.1.sublist List.filter_sublist, fun c hc => h.2 c (Memory.mem_erase.mp hc).1⟩

theorem Memory.wf_insert {size : Nat} {m : Memory} (h : m.wf size) {k : Nat} {v : Byte} (hk : ∀ c ∈ m, c.1 ≠ k)
    (hv : v ≠ unlistedByte) (hs : k < size) : (Memory.insert k v m).wf size := by
  constructor
  · induction m with
    | nil => simp [Memory.insert]
    | cons d m ih =>
      obtain ⟨a, b⟩ := d
      have hp := List.pairwise_cons.mp h.1
      have ha : a ≠ k := hk (a, b) (by simp)
      unfold Memory.insert
      split
      · rename_i hlt
        refine List.pairwise_cons.mpr ⟨fun c hc => ?_, h.1⟩
        rcases List.mem_cons.mp hc with hc | hc
        · subst hc; exact hlt
        · exact lt_trans hlt (hp.1 c hc)
      · refine List.pairwise_cons.mpr ⟨fun c hc => ?_, ?_⟩
        · rcases Memory.mem_insert.mp hc with hc | hc
          · subst hc; simp only; omega
          · exact hp.1 c hc
        · exact ih ⟨hp.2, fun c hc => h.2 c (by simp [hc])⟩ fun c hc => hk c (by simp [hc])
  · intro c hc
    rcases Memory.mem_insert.mp hc with hc | hc
    · subst hc; exact ⟨hv, hs⟩
    · exact h.2 c hc

/-- A write inside the store keeps the canonical form. -/
theorem Memory.wf_write {size : Nat} {m : Memory} (h : m.wf size) {k : Nat} (hs : k < size) (v : Byte) :
    (m.write k v).wf size := by
  unfold Memory.write
  split
  · exact Memory.wf_erase h k
  · rename_i hv
    exact Memory.wf_insert (Memory.wf_erase h k) (fun c hc => (Memory.mem_erase.mp hc).2) hv hs

theorem Memory.read_of_lt {size : Nat} {m : Memory} (h : m.wf size) {k : Nat} (hk : ∀ c ∈ m, k < c.1) :
    m.read k = unlistedByte := by
  induction m with
  | nil => rfl
  | cons c m ih =>
    obtain ⟨a, b⟩ := c
    have : k < a := hk (a, b) (by simp)
    simp only [Memory.read, if_neg (by omega : k ≠ a)]
    exact ih ⟨(List.pairwise_cons.mp h.1).2, fun c hc => h.2 c (by simp [hc])⟩ fun c hc => hk c (by simp [hc])

/-- Equal memories are equal data: two canonical memories that read alike at every address are the same list. -/
theorem Memory.ext_read {size : Nat} {m n : Memory} (hm : m.wf size) (hn : n.wf size)
    (h : ∀ k, m.read k = n.read k) : m = n := by
  induction m generalizing n with
  | nil =>
    cases n with
    | nil => rfl
    | cons d n =>
      obtain ⟨a, b⟩ := d
      have := h a
      simp only [Memory.read, if_true] at this
      exact absurd this.symm (hn.2 (a, b) (by simp)).1
  | cons c m ih =>
    obtain ⟨a, b⟩ := c
    have hmt : Memory.wf size m := ⟨(List.pairwise_cons.mp hm.1).2, fun c hc => hm.2 c (by simp [hc])⟩
    have hma := (List.pairwise_cons.mp hm.1).1
    cases n with
    | nil =>
      have := h a
      simp only [Memory.read, if_true] at this
      exact absurd this (hm.2 (a, b) (by simp)).1
    | cons d n =>
      obtain ⟨a', b'⟩ := d
      have hnt : Memory.wf size n := ⟨(List.pairwise_cons.mp hn.1).2, fun c hc => hn.2 c (by simp [hc])⟩
      have hna := (List.pairwise_cons.mp hn.1).1
      have haa : a = a' := by
        rcases lt_trichotomy a a' with hlt | heq | hlt
        · have h1 := h a
          simp only [Memory.read, if_true, if_neg (by omega : a ≠ a')] at h1
          rw [Memory.read_of_lt hnt fun c hc => lt_trans hlt (hna c hc)] at h1
          exact absurd h1 (hm.2 (a, b) (by simp)).1
        · exact heq
        · have h1 := h a'
          simp only [Memory.read, if_true, if_neg (by omega : a' ≠ a)] at h1
          rw [Memory.read_of_lt hmt fun c hc => lt_trans hlt (hma c hc)] at h1
          exact absurd h1.symm (hn.2 (a', b') (by simp)).1
      subst haa
      have hb : b = b' := by
        have := h a
        simpa [Memory.read] using this
      subst hb
      rw [ih hmt hnt]
      intro k
      by_cases hk : k = a
      · subst hk
        rw [Memory.read_of_lt hmt hma, Memory.read_of_lt hnt hna]
      · have := h k
        simpa [Memory.read, hk] using this

end Sys2Proof.Machine
end

