-- ==== Sys2Proof/Laws/Ops.lean ====
section
/-! SUPPORT. What each shared operation does, said once: address normalisation, OAM bytes, how an operation ends, the bus
reads, OAM DMA. -/

namespace Sys2Proof.Machine

/-! ### Address normalisation -/

theorem toNat_addrMap (a : Addr) : (addrMap a).toNat =
    if a.toNat < 0x2000 then a.toNat % 0x800
    else if a.toNat < 0x4000 then 0x2000 + a.toNat % 0x2000 % 8 else a.toNat := by
  have := a.isLt
  unfold addrMap
  split
  · rw [BitVec.toNat_ofNat]; omega
  · split
    · rw [BitVec.toNat_ofNat]; omega
    · rfl

theorem addrMap_of_ramLow {a : Addr} (h : a.toNat < 0x2000) : (addrMap a).toNat = a.toNat % 0x800 := by
  rw [toNat_addrMap, if_pos h]

theorem addrMap_of_slot {k : Nat} {a : Addr} (h : inSlot k a = true) : addrMap a = BitVec.ofNat 16 (0x2000 + k) := by
  simp only [inSlot, Bool.and_eq_true, decide_eq_true_eq] at h
  apply BitVec.eq_of_toNat_eq
  rw [toNat_addrMap, BitVec.toNat_ofNat, if_neg (by omega), if_pos (by omega)]
  omega

theorem addrMap_of_high {a : Addr} (h : 0x4000 ≤ a.toNat) : addrMap a = a := by
  unfold addrMap
  rw [if_neg (by omega), if_neg (by omega)]

/-- The mapped addresses, by the rows of the operation table. -/
theorem mapped_cases (a : Addr) :
    mapped a < 0x800 ∨
    (mapped a = 0x2000 ∨ mapped a = 0x2001 ∨ mapped a = 0x2002 ∨ mapped a = 0x2003 ∨
      mapped a = 0x2004 ∨ mapped a = 0x2005 ∨ mapped a = 0x2006 ∨ mapped a = 0x2007) ∨
    (0x4000 ≤ mapped a ∧ mapped a ≤ 0x400F) ∨ (0x4010 ≤ mapped a ∧ mapped a ≤ 0x4013) ∨
    mapped a = 0x4014 ∨ mapped a = 0x4015 ∨ mapped a = 0x4016 ∨ mapped a = 0x4017 ∨ 0x4018 ≤ mapped a := by
  simp only [mapped, toNat_addrMap]
  split_ifs <;> omega

/-- The read dispatch over the mapped address as a number. -/
theorem busRead_mapped (a : Addr) (s : State) : busRead a s =
    if mapped a < 0x2000 then ramRead a s
    else if mapped a = 0x2002 then statusRead s
    else if mapped a = 0x2007 then vramDataRead s
    else if mapped a < 0x4014 then unimplementedRead a s
    else if mapped a = 0x4014 then dmaPortRead s
    else if mapped a = 0x4015 then unimplementedRead a s
    else if mapped a = 0x4016 then pollRead 0 s
    else if mapped a = 0x4017 then pollRead 1 s
    else ramRead a s := by
  unfold busRead
  simp only [BitVec.lt_def, ← BitVec.toNat_inj, mapped]
  rfl

/-- The write dispatch over the mapped address as a number. -/
theorem busWrite_mapped (a : Addr) (v : Byte) (s : State) : busWrite a v s =
    if mapped a < 0x2000 then ramWrite a v s
    else if mapped a = 0x2000 then s.setControl v
    else if mapped a = 0x2001 then s.setMask v
    else if mapped a = 0x2002 then unimplementedWrite a s
    else if mapped a = 0x2003 then s.setOamAddr v
    else if mapped a = 0x2004 then oamDataWrite v s
    else if mapped a = 0x2005 then unimplementedWrite a s
    else if mapped a = 0x2006 then vramAddrWrite v s
    else if mapped a = 0x2007 then vramDataWrite v s
    else if mapped a < 0x4014 then unimplementedWrite a s
    else if mapped a = 0x4014 then oamDma v s
    else if mapped a = 0x4015 then unimplementedWrite a s
    else if mapped a = 0x4016 then strobeWrite v s
    else if mapped a = 0x4017 then unimplementedWrite a s
    else ramWrite a v s := by
  unfold busWrite
  simp only [BitVec.lt_def, ← BitVec.toNat_inj, mapped]
  rfl

/-! ### The latch of `vramAddr` and the controller's bits -/

/-- While the latch is false a write sets the high byte. -/
theorem latchVramAddr_high (v : Addr) (d : Byte) : latchVramAddr false v d = d ++ v.extractLsb' 0 8 := by
  unfold latchVramAddr
  rw [if_neg (by decide)]
  apply BitVec.eq_of_getLsbD_eq
  intro i hi
  have h : (255#16).getLsbD i = decide (i < 8) := by interval_cases i <;> decide
  rw [BitVec.getLsbD_append]
  by_cases h8 : i < 8
  · simp [h8, h]
  · simp [h8, h, hi, -BitVec.getLsbD_eq_getElem]
    omega

/-- While it is true a write sets the low byte. -/
theorem latchVramAddr_low (v : Addr) (d : Byte) : latchVramAddr true v d = v.extractLsb' 8 8 ++ d := by
  unfold latchVramAddr
  rw [if_pos rfl]
  apply BitVec.eq_of_getLsbD_eq
  intro i hi
  have h : (65280#16).getLsbD i = decide (8 ≤ i) := by interval_cases i <;> decide
  rw [BitVec.getLsbD_append]
  by_cases h8 : i < 8
  · simp [h8, h, hi, -BitVec.getLsbD_eq_getElem]
  · have := Nat.not_lt.mp h8
    simp [h8, h, hi, -BitVec.getLsbD_eq_getElem, this, (by omega : i - 8 < 8)]

theorem strobeLatch_eq (v : Byte) : strobeLatch v = v.getLsbD 0 := by revert v; decide +kernel

/-- Under a one-hot mask a poll returns the button bit the mask stands on. -/
theorem pollByte_pollBit_twoPow (b : Byte) (k : Fin 8) :
    pollByte (pollBit b (BitVec.twoPow 8 k.val)) = if b.getLsbD k.val then 0x01 else 0x00 := by
  revert b k; decide +kernel

/-- A poll while strobed. -/
theorem pollRead_strobed (p : Port) (s : State) (h : s.controllerLatch = true) :
    pollRead p s = (if s.params.strobeReset = .onStrobedPoll then s.setCurrentBit p 0 else s, 0) := by
  unfold pollRead poll
  rw [if_pos h]
  rfl

/-- A poll while shifting. -/
theorem pollRead_shifting (p : Port) (s : State) (h : s.controllerLatch = false) :
    pollRead p s = (s.setCurrentBit p (reinitMask s.currentBit[p] >>> 1),
      pollByte (pollBit s.buttons[p] (reinitMask s.currentBit[p]))) := by
  unfold pollRead poll
  rw [if_neg (by simp [h])]
  rfl

theorem exec_joyRead (p : Port) (s : State) : exec (joyRead p) s = answer (pollRead p s) := by fin_cases p <;> rfl

theorem reinitMask_shift_legal (m : Byte) (h : maskLegal m = true) : maskLegal (reinitMask m >>> 1) = true := by
  revert m; decide +kernel

/-! ### OAM -/

theorem State.oamByte_of_lt (s : State) {i : Nat} (h : i < 256) : s.oamByte i = s.oam[i] := by
  simp [State.oamByte, h]

/-- Everything a write of an OAM byte does to OAM. -/
theorem State.writeOamByte_oamByte (s : State) (i : Nat) (v : Byte) (j : Nat) (hi : i < 256) :
    (s.writeOamByte i v).oamByte j = if j = i then v else s.oamByte j := by
  unfold State.writeOamByte State.oamByte
  rw [dif_pos hi]
  by_cases hj : j < 256
  · rw [dif_pos hj, dif_pos hj]
    simp only [State.setOam_oam, Vector.getElem_set]
    by_cases h : i = j
    · simp [h]
    · simp [h, Ne.symm h]
  · rw [dif_neg hj, dif_neg hj, if_neg (by omega)]

theorem State.writeOamByte_eq (s : State) {i : Nat} (v : Byte) (h : i < 256) :
    s.writeOamByte i v = s.setOam (s.oam.set i v h) := dif_pos h

/-- And to the rest of the state: nothing. -/
theorem State.writeOamByte_rest (s : State) (i : Nat) (v : Byte) (o : Vector Byte 256) :
    (s.writeOamByte i v).setOam o = s.setOam o := by
  unfold State.writeOamByte
  split <;> rfl

/-- OAM vectors that agree byte by byte are equal. -/
theorem State.oam_ext {s t : State} (h : ∀ i, i < 256 → s.oamByte i = t.oamByte i) : s.oam = t.oam := by
  ext1 i hi
  rw [← State.oamByte_of_lt s hi, ← State.oamByte_of_lt t hi, h i hi]

/-! ### How an operation ends -/

theorem answer_eq (r : State × Byte) : answer r = .next (r.1.setResult (some r.2)) := rfl

theorem complete_eq (s : State) : complete s = .next (s.setResult none) := rfl

/-! ### The mark of R61 -/

theorem vramIndex_none {mode : VramIndexing} {v : Addr} (h : vramIndex mode v = none) :
    mode = .fault ∧ 0x4000 ≤ v.toNat := by
  unfold vramIndex at h
  cases mode
  · cases h
  · simp only at h
    split at h
    · cases h
    · exact ⟨rfl, by omega⟩

theorem vramIndex_some {mode : VramIndexing} {v : Addr} (h : mode = .mod16K ∨ v.toNat < 0x4000) :
    vramIndex mode v = some (v.toNat % 0x4000) := by
  unfold vramIndex
  cases mode
  · rfl
  · have hv : v.toNat < 0x4000 := by simpa using h
    simp only [if_pos hv, Nat.mod_eq_of_lt hv]

theorem vramIndex_lt {mode : VramIndexing} {v : Addr} {k : Nat} (h : vramIndex mode v = some k) : k < 0x4000 := by
  unfold vramIndex at h
  cases mode
  · cases h; exact Nat.mod_lt _ (by decide)
  · simp only at h
    split at h
    · cases h; assumption
    · cases h

/-! ### What a bus read can do -/

/-- The effects a bus read can have: none, a diagnostic, a free value, the mark of R61 with a free value, or a new shift
mask of one port. -/
inductive ReadEffect (s : State) : State → Prop
  | none : ReadEffect s s
  | diag (a : Addr) : ReadEffect s (s.addDiag .read a)
  | draw : ReadEffect s (s.advanceDraws 1)
  | fault : s.params.vramIndex = .fault → 0x4000 ≤ s.vramAddr.toNat → ReadEffect s (s.markFaulted.advanceDraws 1)
  | poll (p : Port) (m : Byte) :
      (m = 0 ∨ m = reinitMask s.currentBit[p] >>> 1) → ReadEffect s (s.setCurrentBit p m)

theorem unimplementedRead_effect (a : Addr) (s : State) : ReadEffect s (unimplementedRead a s).1 := .diag _

theorem ramRead_effect (a : Addr) (s : State) : ReadEffect s (ramRead a s).1 := .none

theorem statusRead_effect (s : State) : ReadEffect s (statusRead s).1 := by
  unfold statusRead
  split
  · exact .none
  · exact .draw

theorem vramDataRead_effect (s : State) : ReadEffect s (vramDataRead s).1 := by
  unfold vramDataRead
  split
  · exact .none
  · rename_i h
    exact .fault (vramIndex_none h).1 (vramIndex_none h).2

theorem dmaPortRead_effect (s : State) : ReadEffect s (dmaPortRead s).1 := by
  unfold dmaPortRead
  split
  · exact .diag _
  · exact .none

theorem pollRead_effect (p : Port) (s : State) : ReadEffect s (pollRead p s).1 := by
  unfold pollRead poll pollStrobed pollShifting
  split
  · dsimp only
    split
    · exact .poll p 0 (.inl rfl)
    · exact .none
  · exact .poll p _ (.inr rfl)

/-- Every bus read has one of the effects. -/
theorem busRead_effect (a : Addr) (s : State) : ReadEffect s (busRead a s).1 := by
  unfold busRead
  split
  · exact ramRead_effect _ _
  split
  · exact statusRead_effect _
  split
  · exact vramDataRead_effect _
  split
  · exact unimplementedRead_effect _ _
  split
  · exact dmaPortRead_effect _
  split
  · exact unimplementedRead_effect _ _
  split
  · exact pollRead_effect _ _
  split
  · exact pollRead_effect _ _
  · exact ramRead_effect _ _

/-- What stays of a state when bus reads run: all but the diagnostics, which grow, the count of free values, the mark of
R61 and the shift masks. -/
structure KeptByReads (s t : State) : Prop where
  params : t.params = s.params
  cpuMem0 : t.cpuMem0 = s.cpuMem0
  vram0 : t.vram0 = s.vram0
  cpuMem : t.cpuMem = s.cpuMem
  vram : t.vram = s.vram
  oam : t.oam = s.oam
  control : t.control = s.control
  mask : t.mask = s.mask
  status : t.status = s.status
  oamAddr : t.oamAddr = s.oamAddr
  vramAddr : t.vramAddr = s.vramAddr
  writeLatch : t.writeLatch = s.writeLatch
  scrollX : t.scrollX = s.scrollX
  scrollY : t.scrollY = s.scrollY
  buttons : t.buttons = s.buttons
  masks : (∀ p : Port, maskLegal s.currentBit[p] = true) → ∀ p : Port, maskLegal t.currentBit[p] = true
  controllerLatch : t.controllerLatch = s.controllerLatch
  composite : t.composite = s.composite
  frame : t.frame = s.frame
  diag : s.diag <+: t.diag
  refused : t.refused = s.refused
  faulted : t.faulted = s.faulted ∨ (t.faulted = true ∧ s.params.vramIndex = .fault ∧ 0x4000 ≤ s.vramAddr.toNat)
  result : t.result = s.result
  pending : t.pending = s.pending

theorem KeptByReads.refl (s : State) : KeptByReads s s := by
  constructor <;> first | rfl | exact id | exact List.prefix_rfl | exact .inl rfl

theorem KeptByReads.trans {s t u : State} (h : KeptByReads s t) (g : KeptByReads t u) : KeptByReads s u := by
  constructor
  case masks => exact fun hs => g.masks (h.masks hs)
  case diag => exact h.diag.trans g.diag
  case faulted =>
    rcases g.faulted with hg | hg
    · rw [hg]; exact h.faulted
    · rw [h.params, h.vramAddr] at hg; exact .inr hg
  all_goals simp only [g.params, g.cpuMem0, g.vram0, g.cpuMem, g.vram, g.oam, g.control, g.mask, g.status, g.oamAddr,
    g.vramAddr, g.writeLatch, g.scrollX, g.scrollY, g.buttons, g.controllerLatch, g.composite, g.frame, g.refused,
    g.result, g.pending, h.params, h.cpuMem0, h.vram0, h.cpuMem, h.vram, h.oam, h.control, h.mask, h.status, h.oamAddr,
    h.vramAddr, h.writeLatch, h.scrollX, h.scrollY, h.buttons, h.controllerLatch, h.composite, h.frame, h.refused,
    h.result, h.pending]

/-- A new legal mask of one port keeps all masks legal. -/
theorem State.setCurrentBit_legal {s : State} {p : Port} {m : Byte} (hm : maskLegal m = true)
    (h : ∀ q : Port, maskLegal s.currentBit[q] = true) (q : Port) : maskLegal (s.setCurrentBit p m).currentBit[q] = true := by
  simp only [State.setCurrentBit_currentBit, Fin.getElem_fin, Vector.getElem_set]
  split
  · exact hm
  · exact h q

/-- What no bus read changes. -/
theorem ReadEffect.kept {s t : State} (h : ReadEffect s t) : KeptByReads s t := by
  cases h with
  | none => exact .refl s
  | diag a => constructor <;> first | rfl | exact id | exact List.prefix_append _ _ | exact .inl rfl
  | draw => constructor <;> first | rfl | exact id | exact List.prefix_rfl | exact .inl rfl
  | fault h1 h2 => constructor <;> first | rfl | exact id | exact List.prefix_rfl | exact .inr ⟨rfl, h1, h2⟩
  | poll p m hm =>
    constructor
    case masks =>
      intro h
      refine State.setCurrentBit_legal ?_ h
      rcases hm with hm | hm
      · rw [hm]; rfl
      · rw [hm]; exact reinitMask_shift_legal _ (h p)
    all_goals first | rfl | exact List.prefix_rfl | exact .inl rfl

theorem busRead_kept (a : Addr) (s : State) : KeptByReads s (busRead a s).1 := (busRead_effect a s).kept

/-! ### A bus read does not see OAM, and leaves it alone -/

theorem pollRead_setOam (p : Port) (s : State) (o : Vector Byte 256) :
    pollRead p (s.setOam o) = ((pollRead p s).1.setOam o, (pollRead p s).2) := by
  unfold pollRead poll pollStrobed pollShifting
  by_cases h : s.controllerLatch = true
  · by_cases h' : s.params.strobeReset = .onStrobedPoll
    · simp only [State.setOam_controllerLatch, State.setOam_params, h, h', if_true]; rfl
    · simp only [State.setOam_controllerLatch, State.setOam_params, h, h', if_true, if_false]
  · simp only [State.setOam_controllerLatch, h, if_false, Bool.false_eq_true]; rfl

/-- A bus read is the same whatever OAM holds: its byte is the same, and its state differs in OAM alone. -/
theorem busRead_setOam (a : Addr) (s : State) (o : Vector Byte 256) :
    busRead a (s.setOam o) = ((busRead a s).1.setOam o, (busRead a s).2) := by
  unfold busRead
  split
  · rfl
  split
  · unfold statusRead; simp only [State.setOam_params]; split <;> rfl
  split
  · unfold vramDataRead; simp only [State.setOam_params, State.setOam_vramAddr]; split <;> rfl
  split
  · rfl
  split
  · unfold dmaPortRead; simp only [State.setOam_params]; split <;> rfl
  split
  · rfl
  split
  · exact pollRead_setOam _ s o
  split
  · exact pollRead_setOam _ s o
  · rfl

theorem dmaSource_setOam (mode : DmaSource) (a : Addr) (s : State) (o : Vector Byte 256) :
    dmaSource mode a (s.setOam o) = ((dmaSource mode a s).1.setOam o, (dmaSource mode a s).2) := by
  cases mode
  · rfl
  · exact busRead_setOam a s o

/-! ### OAM DMA -/

/-- The state after the first n source reads of a DMA, without the OAM writes between them. -/
def dmaReads (mode : DmaSource) (page : Byte) (s : State) (n : Nat) : State :=
  (List.range n).foldl (fun u j => (dmaSource mode (dmaAddr page j) u).1) s

theorem dmaReads_succ (mode : DmaSource) (page : Byte) (s : State) (n : Nat) :
    dmaReads mode page s (n + 1) = (dmaSource mode (dmaAddr page n) (dmaReads mode page s n)).1 := by
  simp [dmaReads, List.range_succ]

theorem State.setOam_self (s : State) : s.setOam s.oam = s := rfl

theorem State.setOam_setOam (s : State) (o o' : Vector Byte 256) : (s.setOam o).setOam o' = s.setOam o' := rfl

/-- The first n steps of a DMA: the rest of the state is what the source reads leave, and OAM bytes below n are theirs. -/
theorem dmaSteps (mode : DmaSource) (page : Byte) (s : State) (n : Nat) (hn : n ≤ 256) :
    ((List.range n).foldl (dmaStep mode page) s).setOam s.oam = (dmaReads mode page s n).setOam s.oam ∧
    ∀ i, i < n → ((List.range n).foldl (dmaStep mode page) s).oamByte i =
      (dmaSource mode (dmaAddr page i) (dmaReads mode page s i)).2 := by
  induction n with
  | zero => exact ⟨rfl, fun i hi => absurd hi (by omega)⟩
  | succ n ih =>
    obtain ⟨ih1, ih2⟩ := ih (by omega)
    rw [List.range_succ, List.foldl_append, List.foldl_cons, List.foldl_nil, dmaReads_succ]
    generalize hu : (List.range n).foldl (dmaStep mode page) s = u at ih1 ih2
    generalize hr : dmaReads mode page s n = r at ih1
    have hsrc := congrArg (dmaSource mode (dmaAddr page n)) ih1
    rw [dmaSource_setOam, dmaSource_setOam] at hsrc
    have h1 := congrArg Prod.fst hsrc
    have h2 := congrArg Prod.snd hsrc
    simp only at h1 h2
    have huo : (dmaSource mode (dmaAddr page n) u).1.oam = u.oam := by
      cases mode
      · rfl
      · exact (busRead_kept _ _).oam
    constructor
    · unfold dmaStep
      rw [State.writeOamByte_rest, h1]
    · intro i hi
      unfold dmaStep
      rw [State.writeOamByte_oamByte _ _ _ _ (by omega)]
      split
      · rename_i h
        subst h
        rw [h2, hr]
      · have : (dmaSource mode (dmaAddr page n) u).1.oamByte i = u.oamByte i := by
          unfold State.oamByte
          rw [huo]
        rw [this]
        exact ih2 i (by omega)

theorem exec_writeOamDma (page : Byte) (s : State) :
    exec (.writeOamDma page) s = .next ((oamDma page s).setResult none) := rfl

/-- All of what an OAM DMA does. -/
theorem oamDma_spec (page : Byte) (s : State) :
    (oamDma page s).setOam s.oam = (dmaReads s.params.dmaSource page s 256).setOam s.oam ∧
    ∀ i, i < 256 → (oamDma page s).oamByte i =
      (dmaSource s.params.dmaSource (dmaAddr page i) (dmaReads s.params.dmaSource page s i)).2 := by
  unfold oamDma
  exact dmaSteps _ page s 256 le_rfl

/-- Where no source read has an effect, a DMA copies the bytes and changes OAM alone. -/
theorem dmaReads_of_pure {mode : DmaSource} {page : Byte} {s : State} {n : Nat}
    (h : ∀ i, i < n → (dmaSource mode (dmaAddr page i) s).1 = s) : dmaReads mode page s n = s := by
  induction n with
  | zero => rfl
  | succ n ih => rw [dmaReads_succ, ih fun i hi => h i (by omega), h n (by omega)]

theorem dmaSource_kept (mode : DmaSource) (a : Addr) (s : State) : KeptByReads s (dmaSource mode a s).1 := by
  cases mode
  · exact .refl s
  · exact busRead_kept a s

theorem dmaReads_kept (mode : DmaSource) (page : Byte) (s : State) (n : Nat) :
    KeptByReads s (dmaReads mode page s n) := by
  induction n with
  | zero => exact .refl s
  | succ n ih => rw [dmaReads_succ]; exact ih.trans (dmaSource_kept _ _ _)

/-- Under `Raw` no source read has an effect. -/
theorem dmaReads_raw (page : Byte) (s : State) (n : Nat) : dmaReads .raw page s n = s := dmaReads_of_pure fun _ _ => rfl

/-- What no OAM DMA changes. -/
theorem oamDma_kept (page : Byte) (s : State) : KeptByReads s ((oamDma page s).setOam s.oam) := by
  have h := dmaReads_kept s.params.dmaSource page s 256
  rw [(oamDma_spec page s).1]
  have e : (dmaReads s.params.dmaSource page s 256).setOam s.oam = dmaReads s.params.dmaSource page s 256 := by
    generalize dmaReads s.params.dmaSource page s 256 = u at *
    rw [← h.oam]
    rfl
  rw [e]
  exact h

theorem toNat_dmaAddr (page : Byte) {i : Nat} (hi : i < 256) : (dmaAddr page i).toNat = page.toNat * 256 + i := by
  have := page.isLt
  rw [dmaAddr, BitVec.toNat_ofNat]
  omega

/-! ### What the writes leave alone -/

/-- A VideoMemory access under `Fault` past the store sets the mark; every other one keeps it. -/
theorem vramDataWrite_cases (v : Byte) (s : State) :
    (∃ k, k < 0x4000 ∧ vramDataWrite v s = s.writeVramByte k v) ∨
    (s.params.vramIndex = .fault ∧ 0x4000 ≤ s.vramAddr.toNat ∧ vramDataWrite v s = s.markFaulted) := by
  unfold vramDataWrite
  split
  · rename_i k h
    exact .inl ⟨k, vramIndex_lt h, rfl⟩
  · rename_i h
    exact .inr ⟨(vramIndex_none h).1, (vramIndex_none h).2, rfl⟩

/-- Everything a write of the OAM data port does. -/
theorem oamDataWrite_eq (v : Byte) (s : State) : oamDataWrite v s =
    (s.setOam (s.oam.set s.oamAddr.toNat v s.oamAddr.isLt)).setOamAddr (s.oamAddr + 1) := by
  unfold oamDataWrite
  rw [State.writeOamByte_eq _ _ s.oamAddr.isLt]

theorem strobeWrite_cases (v : Byte) (s : State) :
    (s.params.strobeReset = .onLatchWrite ∧ strobeWrite v s =
      ((s.setControllerLatch (strobeLatch v)).setCurrentBit 0 0).setCurrentBit 1 0) ∨
    strobeWrite v s = s.setControllerLatch (strobeLatch v) := by
  unfold strobeWrite
  split
  · rename_i h
    exact .inl ⟨h.1, rfl⟩
  · exact .inr rfl

end Sys2Proof.Machine
end

