-- ==== Sys2Proof/Laws/PerInstr.lean ====
section
/-! SUPPORT. A statement about every operation as syntax, one lemma per constructor: the two kind bits of its word
(spec/30_encoding.md R91). -/

namespace Sys2Proof.Laws.EncodeKind

open Sys2Proof

/-- The kind of an operation: 0 a bus read, 1 a bus write, 2 a host operation (R91). -/
def kindOf : Instr → BitVec 2
  | .readRamLow _ => 0
  | .readControl _ => 0
  | .readMask _ => 0
  | .readStatus _ => 0
  | .readOamAddr _ => 0
  | .readOamData _ => 0
  | .readScroll _ => 0
  | .readVramAddr _ => 0
  | .readVramData _ => 0
  | .readApu4000 _ => 0
  | .readApu4010 _ => 0
  | .read4014 => 0
  | .readApu4015 => 0
  | .readJoy1 => 0
  | .readJoy2 => 0
  | .readRamHigh _ => 0
  | .writeRamLow _ _ => 1
  | .writeControl _ _ => 1
  | .writeMask _ _ => 1
  | .writeStatus _ _ => 1
  | .writeOamAddr _ _ => 1
  | .writeOamData _ _ => 1
  | .writeScroll _ _ => 1
  | .writeVramAddr _ _ => 1
  | .writeVramData _ _ => 1
  | .writeApu4000 _ _ => 1
  | .writeApu4010 _ _ => 1
  | .writeOamDma _ => 1
  | .writeApu4015 _ => 1
  | .writeJoyStrobe _ => 1
  | .writeApu4017 _ => 1
  | .writeRamHigh _ _ => 1
  | .init => 2
  | .composeFrame => 2
  | .sampleInput _ _ => 2

/-- The kind bits of the encoding are the operation's. -/
def Statement (i : Instr) : Prop := wordKind (encode i) = kindOf i

theorem kind_busReadWord (a : Addr) : wordKind (busReadWord a) = 0 := by
  have := a.isLt
  apply BitVec.eq_of_toNat_eq
  rw [toNat_wordKind, toNat_busReadWord, show (BitVec.toNat (0 : BitVec 2)) = 0 from rfl]
  omega

theorem kind_busWriteWord (a : Addr) (d : Byte) : wordKind (busWriteWord a d) = 1 := by
  have := a.isLt
  have := d.isLt
  apply BitVec.eq_of_toNat_eq
  rw [toNat_wordKind, toNat_busWriteWord, show (BitVec.toNat (1 : BitVec 2)) = 1 from rfl]
  omega

theorem kind_hostWord (h : Byte) (x : BitVec 16) : wordKind (hostWord h x) = 2 := by
  have := h.isLt
  have := x.isLt
  apply BitVec.eq_of_toNat_eq
  rw [toNat_wordKind, toNat_hostWord, show (BitVec.toNat (2 : BitVec 2)) = 2 from rfl]
  omega

theorem readRamLow (addr : Addr) : Statement (.readRamLow addr) := kind_busReadWord _
theorem readControl (addr : Addr) : Statement (.readControl addr) := kind_busReadWord _
theorem readMask (addr : Addr) : Statement (.readMask addr) := kind_busReadWord _
theorem readStatus (addr : Addr) : Statement (.readStatus addr) := kind_busReadWord _
theorem readOamAddr (addr : Addr) : Statement (.readOamAddr addr) := kind_busReadWord _
theorem readOamData (addr : Addr) : Statement (.readOamData addr) := kind_busReadWord _
theorem readScroll (addr : Addr) : Statement (.readScroll addr) := kind_busReadWord _
theorem readVramAddr (addr : Addr) : Statement (.readVramAddr addr) := kind_busReadWord _
theorem readVramData (addr : Addr) : Statement (.readVramData addr) := kind_busReadWord _
theorem readApu4000 (addr : Addr) : Statement (.readApu4000 addr) := kind_busReadWord _
theorem readApu4010 (addr : Addr) : Statement (.readApu4010 addr) := kind_busReadWord _
theorem read4014 : Statement .read4014 := kind_busReadWord _
theorem readApu4015 : Statement .readApu4015 := kind_busReadWord _
theorem readJoy1 : Statement .readJoy1 := kind_busReadWord _
theorem readJoy2 : Statement .readJoy2 := kind_busReadWord _
theorem readRamHigh (addr : Addr) : Statement (.readRamHigh addr) := kind_busReadWord _
theorem writeRamLow (addr : Addr) (data : Byte) : Statement (.writeRamLow addr data) := kind_busWriteWord _ _
theorem writeControl (addr : Addr) (data : Byte) : Statement (.writeControl addr data) := kind_busWriteWord _ _
theorem writeMask (addr : Addr) (data : Byte) : Statement (.writeMask addr data) := kind_busWriteWord _ _
theorem writeStatus (addr : Addr) (data : Byte) : Statement (.writeStatus addr data) := kind_busWriteWord _ _
theorem writeOamAddr (addr : Addr) (data : Byte) : Statement (.writeOamAddr addr data) := kind_busWriteWord _ _
theorem writeOamData (addr : Addr) (data : Byte) : Statement (.writeOamData addr data) := kind_busWriteWord _ _
theorem writeScroll (addr : Addr) (data : Byte) : Statement (.writeScroll addr data) := kind_busWriteWord _ _
theorem writeVramAddr (addr : Addr) (data : Byte) : Statement (.writeVramAddr addr data) := kind_busWriteWord _ _
theorem writeVramData (addr : Addr) (data : Byte) : Statement (.writeVramData addr data) := kind_busWriteWord _ _
theorem writeApu4000 (addr : Addr) (data : Byte) : Statement (.writeApu4000 addr data) := kind_busWriteWord _ _
theorem writeApu4010 (addr : Addr) (data : Byte) : Statement (.writeApu4010 addr data) := kind_busWriteWord _ _
theorem writeOamDma (page : Byte) : Statement (.writeOamDma page) := kind_busWriteWord _ _
theorem writeApu4015 (data : Byte) : Statement (.writeApu4015 data) := kind_busWriteWord _ _
theorem writeJoyStrobe (data : Byte) : Statement (.writeJoyStrobe data) := kind_busWriteWord _ _
theorem writeApu4017 (data : Byte) : Statement (.writeApu4017 data) := kind_busWriteWord _ _
theorem writeRamHigh (addr : Addr) (data : Byte) : Statement (.writeRamHigh addr data) := kind_busWriteWord _ _
theorem init : Statement .init := kind_hostWord _ _
theorem composeFrame : Statement .composeFrame := kind_hostWord _ _
theorem sampleInput (port : Port) (value : Byte) : Statement (.sampleInput port value) := kind_hostWord _ _

end Sys2Proof.Laws.EncodeKind
end

