-- ==== Sys2Proof/Laws/Render.lean ====
section
/-! SUPPORT. What the rendering functions do: the fields of `control`, the tile decoder, one nametable, one sprite. -/

namespace Sys2Proof.Machine

/-! ### Fields -/

theorem controlBit_eq (s : State) (k : Fin 8) : controlBit s k = (s.control.getLsbD k.val).toNat := by
  unfold controlBit
  rw [BitVec.getLsbD, Nat.testBit, Nat.and_one_is_mod, Nat.one_and_eq_mod_two]
  rcases Nat.mod_two_eq_zero_or_one (s.control.toNat >>> k.val) with h | h <;> simp [h]

theorem controlBit_le (s : State) (k : Fin 8) : controlBit s k ≤ 1 := by
  rw [controlBit_eq]
  exact Bool.toNat_le _

theorem bgBank_le (s : State) : bgBank s ≤ 1 := by
  unfold bgBank
  split
  · exact controlBit_le _ _
  · decide
  · decide

/-- R210: the effective scroll stays on the composite surface, but for 16 rows. -/
theorem scrollXEff_lt (s : State) : scrollXEff s < 512 := by
  have := controlBit_le s s.params.ctrlNtxBit
  have := s.scrollX.isLt
  unfold scrollXEff
  omega

theorem scrollYEff_lt (s : State) : scrollYEff s < 496 := by
  have := controlBit_le s s.params.ctrlNtyBit
  have := s.scrollY.isLt
  unfold scrollYEff
  omega

/-! ### The tile decoder -/

theorem srcRow_lt {r : Nat} (hr : r < 8) (flipV : Bool) : srcRow r flipV < 8 := by
  unfold srcRow
  split <;> omega

theorem srcBit_lt (order : ColumnOrder) {c : Nat} (hc : c < 8) (flipH : Bool) : srcBit order c flipH < 8 := by
  unfold srcBit
  cases order <;> cases flipH <;> simp <;> omega

theorem mux_lt (order : PlaneOrder) {a b : Nat} (ha : a < 2) (hb : b < 2) : mux order a b < 4 := by
  interval_cases a <;> interval_cases b <;> cases order <;> decide

/-- A pixel index is one of four. -/
theorem pix_lt (v : VideoView) (addr j c : Nat) (flipH : Bool) : pix v addr j c flipH < 4 := by
  unfold pix
  apply mux_lt <;> (unfold planeBit; rw [Nat.and_one_is_mod]; omega)

/-- A tile whose sixteen bytes are 0 is transparent. -/
theorem decodeTile_of_zero {v : VideoView} {addr : Nat} (flipH flipV : Bool) (base c : Nat) {r : Nat} (hr : r < 8)
    (h : ∀ k, k < 16 → v.byte (addr + k) = 0) : decodeTile v addr flipH flipV base r c = .transparent := by
  have hs := srcRow_lt hr flipV
  have hm : ∀ o : PlaneOrder, mux o 0 0 = 0 := fun o => by cases o <;> rfl
  unfold decodeTile decodedPixel pix planeBit
  rw [h _ (by omega), Nat.add_assoc addr, h _ (by omega)]
  simp [hm]

theorem resolve_congr {v w : VideoView} {k : Nat} (hp : v.params = w.params)
    (h : v.byte (0x3F00 + k % 32) = w.byte (0x3F00 + k % 32)) : resolve v k = resolve w k := by
  unfold resolve
  rw [hp]
  simp only [h]

/-! ### One nametable -/

theorem renderNametable_inside (v : VideoView) (bank ta ox oy : Nat) (f : Canvas) {x y : Nat}
    (h : ox ≤ x ∧ x < ox + 256 ∧ oy ≤ y ∧ y < oy + 240) : renderNametable v bank ta ox oy f x y =
      (nametableTile v bank ta ((x - ox) / 8) ((y - oy) / 8) ((y - oy) % 8) ((x - ox) % 8)).over (f x y) := by
  unfold renderNametable
  rw [if_pos h]

theorem renderNametable_outside (v : VideoView) (bank ta ox oy : Nat) (f : Canvas) {x y : Nat}
    (h : ¬ (ox ≤ x ∧ x < ox + 256 ∧ oy ≤ y ∧ y < oy + 240)) : renderNametable v bank ta ox oy f x y = f x y := by
  unfold renderNametable
  rw [if_neg h]

/-! ### The viewport -/

/-- All of what the background pass leaves at one frame pixel: the blit that writes it, or what was under them all. -/
theorem backgroundFrame_apply (under comp : Canvas) {sx sy x y : Nat} (hx : x < 256) (hy : y < 240) :
    backgroundFrame under comp sx sy x y =
      if x + sx < 512 then
        if y + sy < 480 then comp (x + sx) (y + sy) else comp (x + sx) (y + sy - 480)
      else if y + sy < 480 then comp (x + sx - 512) (y + sy)
      else under x y := by
  unfold backgroundFrame horizontalSeamBlit verticalSeamBlit mainBlit
  by_cases c1 : x + sx < 512 <;> by_cases c2 : y + sy < 480
  · rw [if_neg (by omega), if_neg (by omega), if_pos ⟨c1, c2⟩, if_pos c1, if_pos c2]
  · rw [if_neg (by omega), if_pos (by omega), if_pos c1, if_neg c2]
  · rw [if_pos (by omega), if_neg c1, if_pos c2]
  · rw [if_neg (by omega), if_neg (by omega), if_neg (by omega), if_neg c1, if_neg c2]

/-- R215: a pixel no blit writes is the one carried over or the free colour of its number. -/
theorem unstitchedPixel_cases (old : Colour) (n : Nat) :
    unstitchedPixel old n = old ∨ unstitchedPixel old n = Config.drawColour n := by
  unfold unstitchedPixel
  split
  · exact .inl rfl
  · exact .inr rfl

/-- R171: every master colour is opaque. -/
@[simp] theorem master_alpha (p : Params) (j : Fin 64) : (master p j).a = 0xFF := rfl

/-! ### One sprite -/

/-- A sprite has one half at its Y, or two, the second eight rows below. -/
theorem spriteHalves_cases (s : State) (r : SpriteRecord) :
    (∃ a, spriteHalves s r = [⟨a, r.y⟩]) ∨ ∃ a b, spriteHalves s r = [⟨a, r.y⟩, ⟨b, r.y + 8⟩] := by
  unfold spriteHalves
  split
  · split <;> exact .inr ⟨_, _, rfl⟩
  · exact .inl ⟨_, rfl⟩

/-- Every half of a sprite shows a tile of the pattern tables. -/
theorem spriteHalves_addr (s : State) (n : Nat) {h : SpriteHalf} (hh : h ∈ spriteHalves s (spriteRecord s n)) :
    ∃ bank t, bank ≤ 1 ∧ t < 256 ∧ h.addr = tileAddr bank t := by
  have h1 : (spriteRecord s n).tile < 256 := BitVec.isLt _
  have h2 : (spriteRecord s n).tile &&& 0xFE ≤ 0xFE := Nat.and_le_right
  have h3 : (spriteRecord s n).tile &&& 1 ≤ 1 := Nat.and_le_right
  unfold spriteHalves at hh
  split at hh
  · split at hh <;> simp only [List.mem_cons, List.not_mem_nil, or_false] at hh <;> rcases hh with rfl | rfl <;>
      exact ⟨_, _, h3, by omega, rfl⟩
  · simp only [List.mem_cons, List.not_mem_nil, or_false] at hh
    subst hh
    exact ⟨_, _, controlBit_le _ _, h1, rfl⟩

theorem find_half_cons (a : SpriteHalf) (y : Nat) (l : List SpriteHalf) :
    (a :: l).find? (fun h => decide (h.top ≤ y) && decide (y < h.top + 8)) =
      if a.top ≤ y ∧ y < a.top + 8 then some a
      else l.find? (fun h => decide (h.top ≤ y) && decide (y < h.top + 8)) := by
  rw [List.find?_cons]
  by_cases h : a.top ≤ y ∧ y < a.top + 8
  · simp [h]
  · rw [if_neg h]
    have : (decide (a.top ≤ y) && decide (y < a.top + 8)) = false := by simpa using h
    rw [this]

/-- All of what drawing one sprite does to one pixel. -/
theorem drawSprite_apply (v : VideoView) (s : State) (f : Canvas) (n x y : Nat) :
    drawSprite v s f n x y = (recordPixel v s (spriteRecord s n) x y).over (f x y) := by
  unfold drawSprite recordPixel
  rcases spriteHalves_cases s (spriteRecord s n) with ⟨a, he⟩ | ⟨a, b, he⟩ <;> rw [he] <;> clear he <;>
    generalize spriteRecord s n = r <;>
    simp only [List.foldl_cons, List.foldl_nil, Canvas.drawTile, find_half_cons, List.find?_nil] <;>
    by_cases h1 : r.x ≤ x ∧ x < r.x + 8
  · by_cases h2 : r.y ≤ y ∧ y < r.y + 8
    · rw [if_pos (by omega), if_pos h1, if_pos h2]
    · rw [if_neg (by omega), if_pos h1, if_neg h2]
      rfl
  · rw [if_neg (by omega), if_neg h1]
    rfl
  · by_cases h2 : r.y ≤ y ∧ y < r.y + 8
    · rw [if_neg (by omega), if_pos (by omega), if_pos h1, if_pos h2]
    · by_cases h3 : r.y + 8 ≤ y ∧ y < r.y + 8 + 8
      · rw [if_pos (by omega), if_neg (by omega), if_pos h1, if_neg h2, if_pos h3]
      · rw [if_neg (by omega), if_neg (by omega), if_pos h1, if_neg h2, if_neg h3]
        rfl
  · rw [if_neg (by omega), if_neg (by omega), if_neg h1]
    rfl

end Sys2Proof.Machine
end

