-- ==== Sys2Proof/Laws/Step.lean ====
section
/-! SUPPORT. What one step can do, said once. -/

namespace Sys2Proof.Machine

/-- Everything a step can do: nothing where no word is issued, the operation of the oldest word, or a refused word. -/
theorem step_cases {s t : State} (h : step s = .next t) :
    (s.pending = [] ∧ t = s) ∨
    (∃ w rest i, s.pending = w :: rest ∧ decode w = .ok i ∧ exec i (s.setPending rest) = .next t) ∨
    (∃ w rest e, s.pending = w :: rest ∧ decode w = .error e ∧
      t = ((s.setPending rest).markRefused).setResult none) := by
  unfold step at h
  split at h
  · rename_i hp
    injection h with h
    exact .inl ⟨hp, h.symm⟩
  · rename_i w rest hp
    unfold runWord at h
    split at h
    · rename_i i hd
      exact .inr (.inl ⟨w, rest, i, hp, hd, h⟩)
    · rename_i e hd
      injection h with h
      exact .inr (.inr ⟨w, rest, e, hp, hd, h.symm⟩)

/-- A word placed before the others is the next step's. -/
theorem withFetchWord_pending (s : State) (nbits w : Nat) :
    (s.withFetchWord nbits w).pending = BitVec.ofNat 26 (w % 2 ^ nbits) :: s.pending := rfl

theorem withFetchWord_rest (s : State) (nbits w : Nat) : (s.withFetchWord nbits w).setPending s.pending = s := rfl

end Sys2Proof.Machine
end

