-- ==== Sys2Proof/Tests/Slice0.lean ====
section
/-! SUPPORT. Small tests of the model: the words of spec/30_encoding.md R102, the vectors of spec/95_test_vectors.md (their
numbers in the docstrings; every expected value is theirs or a rule's), and one witness for each statement's hypotheses. -/

namespace Sys2Proof.Tests

open Sys2Proof Sys2Proof.Machine

/-! ### WellFormed: one operand outside its row's addresses for each check -/

theorem test_illFormed_ramLow : (Instr.readRamLow 0x2000).wellFormed = false ∧ inRamLow 0x1FFF = true := by decide

theorem test_illFormed_slots :
    (Instr.readControl 0x2001).wellFormed = false ∧ (Instr.writeMask 0x4001 0).wellFormed = false ∧
    (Instr.readStatus 0x0002).wellFormed = false ∧ (Instr.writeOamAddr 0x2004 0).wellFormed = false ∧
    (Instr.readOamData 0x2005).wellFormed = false ∧ (Instr.writeScroll 0x2006 0).wellFormed = false ∧
    (Instr.readVramAddr 0x2007).wellFormed = false ∧ (Instr.writeVramData 0x2008 0).wellFormed = false ∧
    inSlot 7 0x3FFF = true := by decide

theorem test_illFormed_apu4000 :
    (Instr.writeApu4000 0x4010 0).wellFormed = false ∧ (Instr.readApu4000 0x3FFF).wellFormed = false ∧
    inApu4000 0x400F = true := by decide

theorem test_illFormed_apu4010 :
    (Instr.writeApu4010 0x4014 0).wellFormed = false ∧ (Instr.readApu4010 0x400F).wellFormed = false ∧
    inApu4010 0x4013 = true := by decide

theorem test_illFormed_ramHigh : (Instr.writeRamHigh 0x4017 0).wellFormed = false ∧ inRamHigh 0x4018 = true := by decide

/-! ### Decoding: each row's word, written from its encoding in R102 (kind, address or host fields, data) -/

/-- A word from its three fields, kind bits first. -/
abbrev word (kind : BitVec 2) (mid : BitVec 16) (low : BitVec 8) : OpWord := kind ++ mid ++ low

theorem test_decode_reads_ppu :
    decode (word 0b00 0b0001100000000001 0) = .ok (.readRamLow 0x1801) ∧
    decode (word 0b00 0b0010000000001000 0) = .ok (.readControl 0x2008) ∧
    decode (word 0b00 0b0011111111111001 0) = .ok (.readMask 0x3FF9) ∧
    decode (word 0b00 0b0010000000000010 0) = .ok (.readStatus 0x2002) ∧
    decode (word 0b00 0b0010100000000011 0) = .ok (.readOamAddr 0x2803) ∧
    decode (word 0b00 0b0010000000000100 0) = .ok (.readOamData 0x2004) ∧
    decode (word 0b00 0b0011000000000101 0) = .ok (.readScroll 0x3005) ∧
    decode (word 0b00 0b0011010001010110 0) = .ok (.readVramAddr 0x3456) ∧
    decode (word 0b00 0b0011111111111111 0) = .ok (.readVramData 0x3FFF) := by decide

theorem test_decode_reads_high :
    decode (word 0b00 0b0100000000001111 0) = .ok (.readApu4000 0x400F) ∧
    decode (word 0b00 0b0100000000010011 0) = .ok (.readApu4010 0x4013) ∧
    decode (word 0b00 0b0100000000010100 0) = .ok .read4014 ∧
    decode (word 0b00 0b0100000000010101 0) = .ok .readApu4015 ∧
    decode (word 0b00 0b0100000000010110 0) = .ok .readJoy1 ∧
    decode (word 0b00 0b0100000000010111 0) = .ok .readJoy2 ∧
    decode (word 0b00 0b0100000000011000 0) = .ok (.readRamHigh 0x4018) ∧
    decode (word 0b00 0b1000000000000001 0) = .ok (.readRamHigh 0x8001) := by decide

theorem test_decode_writes_ppu :
    decode (word 0b01 0b0000100000000001 0b01011010) = .ok (.writeRamLow 0x0801 0x5A) ∧
    decode (word 0b01 0b0010000000000000 0b10100101) = .ok (.writeControl 0x2000 0xA5) ∧
    decode (word 0b01 0b0010000000001001 0b00000110) = .ok (.writeMask 0x2009 0x06) ∧
    decode (word 0b01 0b0010000000000010 0b11111111) = .ok (.writeStatus 0x2002 0xFF) ∧
    decode (word 0b01 0b0011111111111011 0b10000000) = .ok (.writeOamAddr 0x3FFB 0x80) ∧
    decode (word 0b01 0b0010000000001100 0b01000100) = .ok (.writeOamData 0x200C 0x44) ∧
    decode (word 0b01 0b0010000000000101 0b00010000) = .ok (.writeScroll 0x2005 0x10) ∧
    decode (word 0b01 0b0010000000000110 0b00111111) = .ok (.writeVramAddr 0x2006 0x3F) ∧
    decode (word 0b01 0b0010000000000111 0b00100001) = .ok (.writeVramData 0x2007 0x21) := by decide

theorem test_decode_writes_high :
    decode (word 0b01 0b0100000000000000 0b00110000) = .ok (.writeApu4000 0x4000 0x30) ∧
    decode (word 0b01 0b0100000000010001 0b00000001) = .ok (.writeApu4010 0x4011 0x01) ∧
    decode (word 0b01 0b0100000000010100 0b00000010) = .ok (.writeOamDma 0x02) ∧
    decode (word 0b01 0b0100000000010101 0b00001111) = .ok (.writeApu4015 0x0F) ∧
    decode (word 0b01 0b0100000000010110 0b00000001) = .ok (.writeJoyStrobe 0x01) ∧
    decode (word 0b01 0b0100000000010111 0b01000000) = .ok (.writeApu4017 0x40) ∧
    decode (word 0b01 0b0101000000000000 0b01110111) = .ok (.writeRamHigh 0x5000 0x77) := by decide

/-- E5-E7 and the host rows of R102: `hostop`, then the operand. -/
theorem test_decode_host :
    decode (0b10#2 ++ 0x00#8 ++ 0x0000#16) = .ok .init ∧
    decode (0b10#2 ++ 0x01#8 ++ 0x0000#16) = .ok .composeFrame ∧
    decode (0b10#2 ++ 0x02#8 ++ 0b0000000#7 ++ 0b1#1 ++ 0x81#8) = .ok (.sampleInput 1 0x81) ∧
    decode (0b10#2 ++ 0x02#8 ++ 0b0000000#7 ++ 0b0#1 ++ 0x81#8) = .ok (.sampleInput 0 0x81) := by decide

/-- E8-E13 and the other words of R99. -/
theorem test_refused_words :
    decode 0x3FFFFFF = .error .reservedKind ∧ decode 0x0FFFF01 = .error .readDataNotZero ∧
    decode 0x2FF0000 = .error .reservedHostOp ∧ decode 0x2008000 = .error .operandNotZero ∧
    decode 0x2028000 = .error .sampleReservedBits := by decide

/-- The host's table words: 26 bits in whole bytes; a number of more than 26 bits is no word. -/
theorem test_decodeTableWord :
    decodeTableWord 32 0x1401402 = some (.writeOamDma 0x02) ∧ decodeTableWord 32 0x4000000 = none ∧
    decodeTableWord 32 0x3000000 = none := by decide

/-- The assembly examples of 95: `R $1801`, `W $0801, $5A`, `INPUT 1, $10`. -/
theorem test_encode : encode (.readRamLow 0x1801) = 0x0180100 ∧ encode (.writeRamLow 0x0801 0x5A) = 0x108015A ∧
    encode (.sampleInput 1 0x10) = 0x2020110 ∧ encode .composeFrame = 0x2010000 := by decide

/-- V1-V13. -/
theorem test_addrMap :
    [0x0000, 0x07FF, 0x0800, 0x1FFF, 0x2000, 0x2008, 0x3456, 0x3FFF, 0x4000, 0x4014, 0x4017, 0x4018, 0xFFFF].map addrMap =
    [0x0000, 0x07FF, 0x0000, 0x07FF, 0x2000, 0x2000, 0x2006, 0x2007, 0x4000, 0x4014, 0x4017, 0x4018, 0xFFFF] := by decide

/-! ### The state the tests run on -/

/-- The default parameters with a palette whose colours can be told apart. -/
def testParams : Params := { defaultParams with masterPalette := tabulate 64 fun j => ⟨BitVec.ofNat 8 j, 0, 0⟩ }

/-- `M(j)` of spec/95_test_vectors.md under `testParams`. -/
def M (j : Byte) : Colour := ⟨j, 0, 0, 0xFF⟩

/-- The launch state with given VideoMemory and CPU memory. -/
def start (vram cpuMem : Memory := []) : State := State.launch testParams cpuMem vram 0 0

/-- What one operation leaves: a condition on the next state, false where there is none. -/
def leaves (i : Instr) (s : State) (p : State → Bool) : Bool :=
  match exec i s with
  | .next t => p t
  | _ => false

/-- Exactly one diagnostic event has been recorded. -/
abbrev diagOne (kind : DiagKind) (a : Addr) (t : State) : Bool := t.diag == [⟨kind, a⟩]

/-- The start state under another parameter record. -/
def under (p : Params) (s : State) : State := { s with params := p }

/-! ### Bus reads (95, 2.4) -/

/-- B-R1: a mirror of 0x0001. -/
theorem test_readRamLow : leaves (.readRamLow 0x1801) (start [] [(0x0001, 0x5A), (0x1801, 0x11)])
    (fun t => t.result == some 0x5A && t.diag == []) = true := by decide

/-- B-R10. -/
theorem test_readRamHigh : leaves (.readRamHigh 0x5000) (start [] [(0x5000, 0x77)]) (fun t => t.result == some 0x77) = true := by
  decide

/-- B-R4: the register is not what a read returns. -/
theorem test_readControl : leaves (.readControl 0x2008) { start with control := 0xA5 }
    (fun t => t.result == some 0 && diagOne .read 0x2000 t && t.control == 0xA5) = true := by decide

theorem test_readMask : leaves (.readMask 0x3FF9) { start with mask := 0x1E }
    (fun t => t.result == some 0 && diagOne .read 0x2001 t) = true := by decide

theorem test_readOamAddr : leaves (.readOamAddr 0x2003) { start with oamAddr := 0x06 }
    (fun t => t.result == some 0 && diagOne .read 0x2003 t) = true := by decide

/-- B-R5. -/
theorem test_readOamData : leaves (.readOamData 0x2004) { start with oamAddr := 0x06, oam := tabulate 256 fun _ => 0x99 }
    (fun t => t.result == some 0 && diagOne .read 0x2004 t && t.oamAddr == 0x06) = true := by decide

theorem test_readScroll : leaves (.readScroll 0x200D) { start with scrollX := 0x10 }
    (fun t => t.result == some 0 && diagOne .read 0x2005 t) = true := by decide

theorem test_readVramAddr : leaves (.readVramAddr 0x3456) { start with vramAddr := 0x2108, writeLatch := true }
    (fun t => t.result == some 0 && diagOne .read 0x2006 t && t.writeLatch) = true := by decide

/-- B-R3 with R151: the register, and nothing is cleared. -/
theorem test_readStatus : leaves (.readStatus 0x2002) { start with status := 0x80, writeLatch := true }
    (fun t => t.result == some 0x80 && t.status == 0x80 && t.writeLatch && t.diag == []) = true := by decide

/-- B-R3 under `Draw`: some byte, one free value drawn. -/
theorem test_readStatus_draw : leaves (.readStatus 0x2002) (under { testParams with statusSource := .draw } start)
    (fun t => t.result.isSome && t.draws == 307201 && t.status == 0) = true := by decide

/-- B-R6, B-R7 under `Mod16K`: 0x7F00 names byte 0x3F00. -/
theorem test_readVramData : leaves (.readVramData 0x2007) { start [(0x3F00, 0x2A)] with vramAddr := 0x7F00 }
    (fun t => t.result == some 0x2A && t.vramAddr == 0x7F00 && t.faulted == false) = true := by decide

/-- B-R7 under `Fault`. -/
theorem test_readVramData_fault :
    leaves (.readVramData 0x2007) { under { testParams with vramIndex := .fault } start with vramAddr := 0x7F00 }
      (fun t => t.result.isSome && t.faulted && t.vramAddr == 0x7F00) = true := by decide

theorem test_readApu4000 : leaves (.readApu4000 0x400F) (start [] [(0x400F, 0x3C)])
    (fun t => t.result == some 0 && diagOne .read 0x400F t) = true := by decide

theorem test_readApu4010 : leaves (.readApu4010 0x4010) (start [] [(0x4010, 0x3C)])
    (fun t => t.result == some 0 && diagOne .read 0x4010 t) = true := by decide

/-- B-R8. -/
theorem test_readApu4015 : leaves .readApu4015 (start [] [(0x4015, 0x3C)])
    (fun t => t.result == some 0 && diagOne .read 0x4015 t) = true := by decide

/-- B-R9 under `Zero`. -/
theorem test_read4014 : leaves .read4014 (start [] [(0x4014, 0x3C)])
    (fun t => t.result == some 0 && diagOne .read 0x4014 t) = true := by decide

/-- B-R9 under `Ram`. -/
theorem test_read4014_ram : leaves .read4014 (under { testParams with read4014 := .ram } (start [] [(0x4014, 0x3C)]))
    (fun t => t.result == some 0x3C && t.diag == []) = true := by decide

/-! ### Bus writes (95, 2.3) -/

/-- W1. -/
theorem test_writeRamLow : leaves (.writeRamLow 0x0801 0x5A) start
    (fun t => t.cpuMem == [(0x0001, 0x5A)] && t.result == none) = true := by decide

/-- A zero byte is not listed. -/
theorem test_writeRamLow_zero : leaves (.writeRamLow 0x1FFF 0) (start [] [(1, 2), (0x7FF, 3)])
    (fun t => t.cpuMem == [(1, 2)]) = true := by decide

/-- W2, kept in address order. -/
theorem test_writeRamHigh : leaves (.writeRamHigh 0x5000 0x77) (start [] [(0x4FFF, 1), (0x5001, 2)])
    (fun t => t.cpuMem == [(0x4FFF, 1), (0x5000, 0x77), (0x5001, 2)]) = true := by decide

/-- W3. -/
theorem test_writeControl : leaves (.writeControl 0x2000 0xA5) start (fun t => t.control == 0xA5 && t.mask == 0) = true := by decide

/-- W4. -/
theorem test_writeMask : leaves (.writeMask 0x2009 0x06) start (fun t => t.mask == 0x06 && t.control == 0) = true := by decide

/-- W5, its first write. -/
theorem test_writeOamAddr : leaves (.writeOamAddr 0x2003 0xFF) start (fun t => t.oamAddr == 0xFF) = true := by decide

/-- W5, its second write: the address wraps. -/
theorem test_writeOamData : leaves (.writeOamData 0x2004 0x11) { start with oamAddr := 0xFF }
    (fun t => t.oamByte 0xFF == 0x11 && t.oamByte 0 == 0 && t.oamAddr == 0x00) = true := by decide

/-- W6: the low byte is kept. -/
theorem test_writeVramAddr_high : leaves (.writeVramAddr 0x2006 0x21) { start with vramAddr := 0xABCD }
    (fun t => t.vramAddr == 0x21CD && t.writeLatch) = true := by decide

/-- W7. -/
theorem test_writeVramAddr_low : leaves (.writeVramAddr 0x2006 0x08) { start with vramAddr := 0x21CD, writeLatch := true }
    (fun t => t.vramAddr == 0x2108 && t.writeLatch == false) = true := by decide

/-- W9, W10 under `Mod16K`: no increment. -/
theorem test_writeVramData : leaves (.writeVramData 0x2007 0x2A) { start with vramAddr := 0x7F00 }
    (fun t => t.vram == [(0x3F00, 0x2A)] && t.vramAddr == 0x7F00) = true := by decide

/-- W10 under `Fault`. -/
theorem test_writeVramData_fault :
    leaves (.writeVramData 0x2007 0x2A) { under { testParams with vramIndex := .fault } start with vramAddr := 0x7F00 }
      (fun t => t.vram == [] && t.faulted) = true := by decide

/-- W11. -/
theorem test_writeStatus : leaves (.writeStatus 0x2002 0xFF) start
    (fun t => t.status == 0 && diagOne .write 0x2002 t) = true := by decide

/-- W11: the scroll is not programmable. -/
theorem test_writeScroll : leaves (.writeScroll 0x200D 0x10) start
    (fun t => t.scrollX == 0 && t.scrollY == 0 && t.writeLatch == false && diagOne .write 0x2005 t) = true := by decide

/-- W11. -/
theorem test_writeApu4000 : leaves (.writeApu4000 0x4000 0x30) start
    (fun t => t.cpuMem == [] && diagOne .write 0x4000 t) = true := by decide

theorem test_writeApu4010 : leaves (.writeApu4010 0x4013 0x30) start
    (fun t => t.cpuMem == [] && diagOne .write 0x4013 t) = true := by decide

/-- W11. -/
theorem test_writeApu4015 : leaves (.writeApu4015 0x0F) start
    (fun t => t.cpuMem == [] && diagOne .write 0x4015 t) = true := by decide

/-- W11: not the strobe of port 1. -/
theorem test_writeApu4017 : leaves (.writeApu4017 0x41) start
    (fun t => t.controllerLatch == false && diagOne .write 0x4017 t) = true := by decide

/-- W12, W15: index 0 first, `oamAddr` kept. -/
theorem test_writeOamDma : leaves (.writeOamDma 0x00) { start [] [(5, 0xAB), (0x105, 1)] with oamAddr := 0x40 }
    (fun t => t.oamByte 5 == 0xAB && t.oamByte 6 == 0 && t.oamAddr == 0x40) = true := by decide +kernel

/-- W14: the raw store under `Raw`, the mirror under `Mapped`. -/
theorem test_writeOamDma_source :
    leaves (.writeOamDma 0x08) (start [] [(0, 0x22), (0x0800, 0x77)]) (fun t => t.oamByte 0 == 0x77) = true ∧
    leaves (.writeOamDma 0x08) (under { testParams with dmaSource := .mapped } (start [] [(0, 0x22), (0x0800, 0x77)]))
      (fun t => t.oamByte 0 == 0x22) = true := by decide +kernel

/-! ### Controller (95, 2.9) -/

/-- W17, W18: only bit 0 counts. -/
theorem test_writeJoyStrobe :
    leaves (.writeJoyStrobe 0x03) start (fun t => t.controllerLatch) = true ∧
    leaves (.writeJoyStrobe 0x02) { start with controllerLatch := true } (fun t => t.controllerLatch == false) = true := by
  decide

/-- J8's strobe write under `OnLatchWrite`. -/
theorem test_writeJoyStrobe_reset :
    leaves (.writeJoyStrobe 0x01) { under { testParams with strobeReset := .onLatchWrite } start with
      currentBit := #v[0x20, 0x40] } (fun t => t.currentBit == #v[0, 0]) = true := by decide

/-- J2's last poll: from mask 0 again bit 7. -/
theorem test_readJoy1 : leaves .readJoy1 { start with buttons := #v[0x81, 0x00] }
    (fun t => t.result == some 1 && t.currentBit == #v[0x40, 0]) = true := by decide

/-- J5 and J7: strobed, under `None` and under `OnStrobedPoll`. -/
theorem test_readJoy1_strobed :
    leaves .readJoy1 { start with buttons := #v[0xFF, 0], currentBit := #v[0x20, 0x10], controllerLatch := true }
      (fun t => t.result == some 0 && t.currentBit == #v[0x20, 0x10]) = true ∧
    leaves .readJoy1 { under { testParams with strobeReset := .onStrobedPoll } start with
      currentBit := #v[0x20, 0x10], controllerLatch := true }
      (fun t => t.result == some 0 && t.currentBit == #v[0, 0x10]) = true := by decide

/-- J3's eighth poll: bit 0, and the mask runs out. -/
theorem test_readJoy2 : leaves .readJoy2 { start with buttons := #v[0xFE, 0x01], currentBit := #v[0x80, 0x01] }
    (fun t => t.result == some 1 && t.currentBit == #v[0x80, 0]) = true := by decide

/-- J9. -/
theorem test_readJoy2_strobed : leaves .readJoy2 { start with buttons := #v[0, 0xFF], controllerLatch := true }
    (fun t => t.result == some 0) = true := by decide

/-- H-4. -/
theorem test_sampleInput : leaves (.sampleInput 1 0x10) { start with buttons := #v[0x81, 0] }
    (fun t => t.buttons == #v[0x81, 0x10] && t.result == none) = true := by decide

/-! ### Host operations, tiles, background and sprites (95, 2.5 to 2.10) -/

/-- H-1: the marks stay. -/
theorem test_init : leaves .init { start [(0x10, 1)] [(2, 3)] with
      control := 1, vram := [], cpuMem := [(9, 9)], writeLatch := true, scrollX := 4, currentBit := #v[1, 1], refused := true,
      faulted := true, diag := [⟨.read, 0x4000⟩] }
    (fun t => t.control == 0 && t.vram == [(0x10, 1)] && t.cpuMem == [(2, 3)] && t.writeLatch == false && t.scrollX == 0 &&
      t.currentBit == #v[0, 0] && t.refused && t.faulted && t.diag == []) = true := by decide

/-- P-1, P-2, P-3. -/
theorem test_resolve :
    resolve (start [(0x3F00, 0x21), (0x3F10, 0x05), (0x3F15, 0x7F)]).video 0 = M 0x21 ∧
    resolve (start [(0x3F00, 0x21), (0x3F10, 0x05), (0x3F15, 0x7F)]).video 0x15 = M 0x3F ∧
    resolve (start [(0x3F00, 0x21), (0x3F10, 0x05), (0x3F15, 0x7F)]).video 0x10 = M 0x05 := by decide

/-- The tile of 95, 2.6. -/
def d1 : Memory := [(0x0010, 0xC0), (0x0011, 0x01), (0x0018, 0xA0)]

/-- A row of pixel indices of the tile at 0x0010. -/
def tileRow (p : Params) (flipH flipV : Bool) (r : Nat) : List Nat :=
  (List.range 8).map fun c => pix (under p (start d1)).video 0x0010 (srcRow r flipV) c flipH

/-- D1-D4, rows 0 and 7 (1 and 6 under vertical flip). -/
theorem test_tileFlips :
    tileRow testParams false false 0 = [3, 1, 2, 0, 0, 0, 0, 0] ∧ tileRow testParams false false 1 = [0, 0, 0, 0, 0, 0, 0, 1] ∧
    tileRow testParams true false 0 = [0, 0, 0, 0, 0, 2, 1, 3] ∧ tileRow testParams false true 7 = [3, 1, 2, 0, 0, 0, 0, 0] ∧
    tileRow testParams true true 6 = [1, 0, 0, 0, 0, 0, 0, 0] ∧ tileRow testParams true true 7 = [0, 0, 0, 0, 0, 2, 1, 3] := by
  decide

/-- D1 row 0 under `HighFirst` and under `LsbLeft`. -/
theorem test_tileOrders :
    tileRow { testParams with planeOrder := .highFirst } false false 0 = [3, 2, 1, 0, 0, 0, 0, 0] ∧
    tileRow { testParams with columnOrder := .lsbLeft } false false 0 = [0, 0, 0, 0, 0, 2, 1, 3] := by decide

/-- B1's VideoMemory: tile 1 at the first cell of nametable 0. -/
def b1 : Memory := d1 ++ [(0x2000, 0x01), (0x3F00, 0x0F), (0x3F01, 0x01), (0x3F02, 0x02), (0x3F03, 0x03)]

/-- B1 through COMPOSE_FRAME. -/
theorem test_composeFrame_background : leaves .composeFrame (start b1)
    (fun t => [(0, 0), (1, 0), (2, 0), (3, 0), (7, 1)].map (fun p => pixelAt t.frame p.1 p.2) ==
      [some (M 3), some (M 1), some (M 2), some (M 15), some (M 1)]) = true := by decide +kernel

/-- S2 through COMPOSE_FRAME: the higher record on top; 62 records lie below the frame. -/
theorem test_composeFrame_sprites :
    leaves .composeFrame { start [(0x0010, 0xFF), (0x3F11, 0x11), (0x3F15, 0x15)] with
      oam := tabulate 256 fun i => [0, 1, 0x00, 0, 0, 1, 0x01, 4].getD i 0xF8 }
    (fun t => [(0, 0), (3, 0), (4, 0), (11, 0), (12, 0)].map (fun p => pixelAt t.frame p.1 p.2) ==
      [some (M 0x11), some (M 0x11), some (M 0x15), some (M 0x15), some (M 0)]) = true := by decide +kernel

/-- The background frame of a state at a pixel. -/
def bgPixel (s : State) (x y : Nat) : Colour :=
  backgroundFrame (surfaceCanvas s.frame) (compositeCanvas s.video (bgBank s)) (scrollXEff s) (scrollYEff s) x y

/-- B2: bank 1 from control bit 4. -/
theorem test_backgroundBank :
    bgPixel { start [(0x1010, 0xFF), (0x2000, 1), (0x3F01, 1)] with control := 0x10 } 7 0 = M 1 ∧
    bgPixel (start [(0x1010, 0xFF), (0x2000, 1), (0x3F01, 1)]) 7 0 = M 0 := by decide +kernel

/-- B3's VideoMemory, palette entries 3, 7, 11 and 15. -/
def b3 : Memory := d1 ++ [(0x2000, 1), (0x2002, 1), (0x2040, 1), (0x2042, 1), (0x23C0, 0xE4), (0x3F03, 0x23), (0x3F07, 0x27),
  (0x3F0B, 0x2B), (0x3F0F, 0x2F)]

/-- B3. -/
theorem test_attributeQuadrants :
    bgPixel (start b3) 0 0 = M 0x23 ∧ bgPixel (start b3) 16 0 = M 0x27 ∧ bgPixel (start b3) 0 16 = M 0x2B ∧
    bgPixel (start b3) 16 16 = M 0x2F := by decide +kernel

/-- B4: nametable 2 at origin (0, 240). -/
theorem test_nametableSelect :
    bgPixel { start (d1 ++ [(0x2800, 1), (0x3F03, 3)]) with control := 0x02 } 0 0 = M 3 := by decide +kernel

/-- B5's VideoMemory. -/
def b5 : Memory := d1 ++ [(0x2000, 1), (0x3F00, 0x0F), (0x3F03, 0x30)]

/-- B5 and B6: the two seams. -/
theorem test_seams :
    bgPixel { start b5 with scrollY := 250 } 0 230 = M 0x30 ∧ bgPixel { start b5 with scrollY := 250 } 1 230 = M 0 ∧
    bgPixel { start b5 with scrollY := 250 } 0 229 = M 15 ∧
    bgPixel { start b5 with scrollX := 10, control := 0x01 } 246 0 = M 0x30 := by decide +kernel

/-- B7: no blit writes the corner, where a pixel keeps what is under it; beside it the seams do. -/
theorem test_corner (under comp : Canvas) :
    backgroundFrame under comp 266 250 246 230 = under 246 230 ∧ backgroundFrame under comp 266 250 255 239 = under 255 239 ∧
    backgroundFrame under comp 266 250 245 230 = comp 511 0 ∧ backgroundFrame under comp 266 250 246 229 = comp 0 479 :=
  ⟨rfl, rfl, rfl, rfl⟩

/-- Record 0 and VideoMemory of a sprite test; palette entry k of the sprite half holds k where listed. -/
def sprite (control : Byte) (rec : List Byte) (vram : Memory) : State :=
  { start (vram ++ [(0x3F11, 0x11), (0x3F12, 0x12), (0x3F15, 0x15), (0x3F16, 0x16), (0x3F17, 0x17)]) with
    control := control, oam := tabulate 256 fun i => rec.getD i 0xF8 }

/-- Record 0's pixels at positions, over a universal background. -/
def spritePixels (s : State) (ps : List (Nat × Nat)) : List Colour :=
  ps.map fun p => drawSprite s.video s (fun _ _ => M 0) 0 p.1 p.2

/-- S1: horizontal flip, palette base 0x14. -/
theorem test_spriteFlipH : spritePixels (sprite 0 [0x10, 1, 0x41, 0x20] d1) [(36, 16), (37, 16), (38, 16), (39, 16)] =
    [M 0, M 0x16, M 0x15, M 0x17] := by decide +kernel

/-- S3 (its last row on screen), S4 (priority bit) and S5 (transparent rows). -/
theorem test_spritePlacement :
    spritePixels (sprite 0 [0xEF, 1, 0, 0xFC] [(0x0010, 0xFF)]) [(251, 239), (252, 239), (255, 239)] = [M 0, M 0x11, M 0x11] ∧
    spritePixels (sprite 0 [5, 1, 0x20, 5] [(0x0010, 0xFF)]) [(5, 5), (5, 6), (5, 12)] = [M 0x11, M 0, M 0] := by
  decide +kernel

/-- S6: the 8x8 bank from control bit 3. -/
theorem test_spriteBank :
    spritePixels (sprite 0x08 [0, 1, 0, 0] [(0x1010, 0xFF)]) [(0, 0)] = [M 0x11] ∧
    spritePixels (sprite 0x00 [0, 1, 0, 0] [(0x1010, 0xFF)]) [(0, 0)] = [M 0] := by decide +kernel

/-- S7: 8x16, and S8: its vertical flip swaps the halves. -/
theorem test_spriteTall :
    spritePixels (sprite 0x20 [0x20, 0x03, 0x00, 0x40] [(0x1020, 0x80), (0x1038, 0x80)]) [(0x40, 32), (0x40, 40)] =
      [M 0x11, M 0x12] ∧
    spritePixels (sprite 0x20 [0x20, 0x03, 0x80, 0x40] [(0x1020, 0x80), (0x1038, 0x80)]) [(0x40, 39), (0x40, 47), (0x40, 32)] =
      [M 0x12, M 0x11, M 0] := by decide +kernel

/-! ### The step -/

/-- A refused word changes no hardware state and sets the mark (R99); an issued word is taken (log 3). -/
theorem test_step_refused :
    (match step ({ start with control := 7 }.withFetchWord 32 0x3000000) with
      | .next t => t.refused && t.control == 7 && t.pending == [] && t.result == none
      | _ => false) = true := by decide

theorem test_step_takes_the_oldest :
    (match step { start with pending := [0x12000A5, 0x1200106] } with
      | .next t => t.control == 0xA5 && t.mask == 0 && t.pending == [0x1200106]
      | _ => false) = true := by decide

/-! ### Witnesses: for each statement of Certificates/Slice0/Obligations.lean that has hypotheses, a state and operands that
meet all of them, clause by clause -/

theorem wit_DecodeOfEncode : (Instr.writeRamHigh 0xFFFF 0xFF).wellFormed = true ∧ (Instr.sampleInput 1 0x81).wellFormed = true := by
  decide

theorem wit_EncodeOfDecode : decode 0x1345601 = .ok (.writeVramAddr 0x3456 0x01) := by decide

theorem wit_RefusedWords :
    ({ start with pending := [0x3000000] } : State).pending = 0x3000000 :: [] ∧ decode 0x3000000 = .error .reservedKind ∧
    ∃ t, step { start with refused := true } = .next t ∧ ({ start with refused := true } : State).refused = true :=
  ⟨rfl, by decide, _, rfl, rfl⟩

/-- Every clause of the two dispatch statements, at an end of its range. -/
theorem wit_BusRules :
    mapped 0x1FFF < 0x0800 ∧ mapped 0x3FF8 = 0x2000 ∧ mapped 0x2001 = 0x2001 ∧ mapped 0x3FFA = 0x2002 ∧ mapped 0x2003 = 0x2003 ∧
    mapped 0x3FFC = 0x2004 ∧ mapped 0x2005 = 0x2005 ∧ mapped 0x3FFE = 0x2006 ∧ mapped 0x3FFF = 0x2007 ∧
    (0x4000 ≤ mapped 0x4000 ∧ mapped 0x4000 ≤ 0x400F) ∧ (0x4000 ≤ mapped 0x400F ∧ mapped 0x400F ≤ 0x400F) ∧
    (0x4010 ≤ mapped 0x4010 ∧ mapped 0x4010 ≤ 0x4013) ∧ (0x4010 ≤ mapped 0x4013 ∧ mapped 0x4013 ≤ 0x4013) ∧
    mapped 0x4014 = 0x4014 ∧ mapped 0x4015 = 0x4015 ∧ mapped 0x4016 = 0x4016 ∧ mapped 0x4017 = 0x4017 ∧
    0x4018 ≤ mapped 0x4018 ∧ 0x4018 ≤ mapped 0xFFFF := by decide

theorem wit_StepRuns :
    ({ start with pending := [0x2000000] } : State).pending = 0x2000000 :: [] ∧ decode 0x2000000 = .ok .init ∧
    start.pending = [] := ⟨rfl, by decide, rfl⟩

/-- A read and a write that set the fault mark. -/
theorem wit_BusOperationsNeverFail :
    let s : State := { under { testParams with vramIndex := .fault } start with vramAddr := 0x4000 }
    (∃ t, runWord (busReadWord 0x2007) s = .next t ∧ t.faulted ≠ s.faulted) ∧
    ∃ t, runWord (busWriteWord 0x2007 1) s = .next t ∧ t.faulted ≠ s.faulted :=
  ⟨⟨_, rfl, by decide⟩, _, rfl, by decide⟩

theorem wit_AddressMirrors :
    (0x1FFF : Addr).toNat < 0x2000 ∧ (0x2000 ≤ (0x3FFF : Addr).toNat ∧ (0x3FFF : Addr).toNat < 0x4000) ∧
    ((0x1FFF : Addr).toNat % 0x800 = (0x07FF : Addr).toNat % 0x800 ∧
      ∃ t, runWord (busWriteWord 0x1FFF 5) start = .next t) ∧
    (0x2000 ≤ (0x2000 : Addr).toNat ∧ (0x2000 : Addr).toNat % 8 = (0x3FF8 : Addr).toNat % 8) ∧
    0x4000 ≤ (0x4000 : Addr).toNat := ⟨by decide, by decide, ⟨by decide, _, rfl⟩, by decide, by decide⟩

theorem wit_UnimplementedReads :
    inSlot 0 0x3FF8 = true ∧ inSlot 1 0x2001 = true ∧ inSlot 3 0x3FFB = true ∧ inSlot 4 0x2004 = true ∧ inSlot 5 0x3FFD = true ∧
    inSlot 6 0x2006 = true ∧ inApu4000 0x400F = true ∧ inApu4010 0x4013 = true := by decide

theorem wit_ReadOfDmaPort : start.params.read4014 = .zero ∧
    (under { testParams with read4014 := .ram } start).params.read4014 = .ram := ⟨rfl, rfl⟩

theorem wit_RamAccesses : (0x1FFF : Addr).toNat < 0x2000 ∧ 0x4018 ≤ (0x4018 : Addr).toNat ∧ 0x4018 ≤ (0xFFFF : Addr).toNat := by
  decide

theorem wit_StatusRead : start.params.statusSource = .constant ∧
    (under { testParams with statusSource := .draw } start).params.statusSource = .draw := ⟨rfl, rfl⟩

/-- VramDataRead, VramDataWriteStoresOneByte and the premise of VramAddressNeverIncrements. -/
theorem wit_VramData :
    let f := under { testParams with vramIndex := .fault } start
    start.params.vramIndex = .mod16K ∧
    (f.params.vramIndex = .fault ∧ ({ f with vramAddr := 0x3FFF } : State).vramAddr.toNat < 0x4000) ∧
    0x4000 ≤ ({ f with vramAddr := 0x4000 } : State).vramAddr.toNat := ⟨rfl, ⟨rfl, by decide⟩, by decide⟩

theorem wit_DroppedWrites : inSlot 2 0x3FFA = true ∧ inSlot 5 0x2005 = true ∧ inApu4000 0x4000 = true ∧ inApu4010 0x4010 = true := by
  decide

theorem wit_OamPortFillsOam :
    mapped 0x200C = 0x2004 ∧ (List.replicate 256 (0x11 : Byte)).length = 256 ∧
    ({ start with pending := (List.replicate 256 (0x11 : Byte)).map (busWriteWord 0x200C) } : State).pending =
      (List.replicate 256 (0x11 : Byte)).map (busWriteWord 0x200C) := ⟨by decide, List.length_replicate, rfl⟩

theorem wit_VramAddrWrite : start.writeLatch = false ∧ ({ start with writeLatch := true } : State).writeLatch = true := ⟨rfl, rfl⟩

theorem wit_TwoVramAddrWrites :
    let s : State := { start with pending := [busWriteWord 0x2006 0x21, busWriteWord 0x3456 0x08] }
    mapped 0x2006 = 0x2006 ∧ mapped 0x3456 = 0x2006 ∧ s.writeLatch = false ∧
    s.pending = busWriteWord 0x2006 0x21 :: busWriteWord 0x3456 0x08 :: [] := ⟨by decide, by decide, rfl, rfl⟩

theorem wit_VramAddressNeverIncrements :
    let s : State := { start with pending :=
      [busWriteWord 0x2007 0x11, busWriteWord 0x2007 0x22, busReadWord 0x2007, busReadWord 0x2007], vramAddr := 0x7F00 }
    mapped 0x2007 = 0x2007 ∧ s.params.vramIndex = .mod16K ∧ s.pending = busWriteWord 0x2007 0x11 ::
      busWriteWord 0x2007 0x22 :: busReadWord 0x2007 :: busReadWord 0x2007 :: [] := ⟨by decide, rfl, rfl⟩

/-- Both settings of `P_DMA_SOURCE`, and the page ranges at their ends. -/
theorem wit_OamDma :
    start.params.dmaSource = .raw ∧ (under { testParams with dmaSource := .mapped } start).params.dmaSource = .mapped ∧
    (0x07 : Byte).toNat ≤ 0x07 ∧ 0x41 ≤ (0x41 : Byte).toNat ∧ 0x41 ≤ (0xFF : Byte).toNat := ⟨rfl, rfl, by decide⟩

theorem wit_StrobeWrite :
    let l := under { testParams with strobeReset := .onLatchWrite } start
    start.params.strobeReset ≠ .onLatchWrite ∧ (0x02 : Byte).getLsbD 0 = false ∧
    l.params.strobeReset = .onLatchWrite ∧ (0x03 : Byte).getLsbD 0 = true := ⟨by decide, by decide, rfl, by decide⟩

theorem wit_StrobedPoll :
    let s : State := { start with controllerLatch := true }
    s.controllerLatch = true ∧ s.params.strobeReset ≠ .onStrobedPoll ∧
    (under { testParams with strobeReset := .onStrobedPoll } s).params.strobeReset = .onStrobedPoll := ⟨rfl, by decide, rfl⟩

theorem wit_ShiftingPoll :
    start.controllerLatch = false ∧ start.currentBit[(0 : Port)] = 0 ∧
    ({ start with currentBit := #v[0x80, 0x02] } : State).currentBit[(0 : Port)] = BitVec.twoPow 8 ((6 : Fin 7).val + 1) ∧
    ({ start with currentBit := #v[0x80, 0x02] } : State).currentBit[(1 : Port)] = BitVec.twoPow 8 ((0 : Fin 7).val + 1) ∧
    ({ start with currentBit := #v[0x01, 0x02] } : State).currentBit[(0 : Port)] = 1 := by decide

theorem wit_EightPolls :
    let s : State := { start with pending := List.replicate 9 (encode (joyRead 1)), currentBit := #v[0x20, 0x80] }
    s.controllerLatch = false ∧ s.currentBit[(1 : Port)] = 0x80 ∧ start.currentBit[(1 : Port)] = 0x00 ∧
    s.pending = List.replicate 9 (encode (joyRead 1)) := ⟨rfl, by decide, by decide, rfl⟩

theorem wit_PortsAreIndependent :
    let s : State := { start with buttons := #v[0x81, 0x10] }
    let s' : State := { start with buttons := #v[0x81, 0xFF], currentBit := #v[0, 4] }
    s.controllerLatch = s'.controllerLatch ∧ s.params.strobeReset = s'.params.strobeReset ∧
    s.buttons[(0 : Port)] = s'.buttons[(0 : Port)] ∧ s.currentBit[(0 : Port)] = s'.currentBit[(0 : Port)] ∧
    ∃ t t', exec (joyRead 0) s = .next t ∧ exec (joyRead 0) s' = .next t' :=
  ⟨rfl, rfl, by decide, by decide, _, _, rfl, rfl⟩

/-- The other port, and an OAM index the data port does not write. -/
theorem wit_OtherPlaces : (1 : Port) ≠ 0 ∧ 0 ≠ ({ start with oamAddr := 0xFF } : State).oamAddr.toNat := by decide

/-- A mask part-way and a mask of 0. -/
theorem wit_ButtonsAreReadLive :
    let s : State := { start with currentBit := #v[0x20, 0] }
    s.controllerLatch = false ∧ s.currentBit[(0 : Port)] = 0x20 ∧ s.currentBit[(1 : Port)] = 0 ∧
    (∃ t u, exec (.sampleInput 0 0xFF) s = .next t ∧ exec (joyRead 0) t = .next u) ∧
    ∃ t u, exec (.sampleInput 1 0xFF) s = .next t ∧ exec (joyRead 1) t = .next u :=
  ⟨rfl, by decide, by decide, ⟨_, _, rfl, rfl⟩, _, _, rfl, rfl⟩

/-- Rows 0 to 4 of a tile for each clause about a row: two 0xFF bytes, 0xFF alone in each plane, the outer bits alone; row 7 is
empty. Both settings of each order. -/
theorem wit_Tiles :
    let v := (start [(0x0010, 0xFF), (0x0011, 0xFF), (0x0013, 0x01), (0x0014, 0x80), (0x0018, 0xFF), (0x001A, 0xFF)]).video
    (7 < 8 ∧ 0 < 8) ∧
    (v.byte (0x0010 + srcRow 7 false) = 0 ∧ v.byte (0x0010 + srcRow 7 false + 8) = 0) ∧
    (v.byte (0x0010 + srcRow 0 false) = 0xFF ∧ v.byte (0x0010 + srcRow 0 false + 8) = 0xFF) ∧
    (v.byte (0x0010 + srcRow 6 true) = 0xFF ∧ v.byte (0x0010 + srcRow 6 true + 8) = 0) ∧
    (v.byte (0x0010 + srcRow 2 false) = 0 ∧ v.byte (0x0010 + srcRow 2 false + 8) = 0xFF) ∧
    (v.byte (0x0010 + srcRow 3 false) = BitVec.twoPow 8 (0 : Fin 8).val ∧ v.byte (0x0010 + srcRow 3 false + 8) = 0) ∧
    (v.byte (0x0010 + srcRow 4 false) = BitVec.twoPow 8 (7 : Fin 8).val ∧ v.byte (0x0010 + srcRow 4 false + 8) = 0) ∧
    v.params.planeOrder = .lowFirst ∧ v.params.columnOrder = .msbLeft ∧
    (under { testParams with planeOrder := .highFirst } start).video.params.planeOrder = .highFirst ∧
    (under { testParams with columnOrder := .lsbLeft } start).video.params.columnOrder = .lsbLeft := by decide

/-- Two different memories that agree on a tile and on palette RAM. -/
theorem wit_TileReadsOnlyItsBytes :
    (start [(0x0010, 1)]).video.params = (start [(0x0010, 1), (0x2000, 9)]).video.params ∧
    (∀ k, k < 16 → (start [(0x0010, 1)]).video.byte (0x0010 + k) = (start [(0x0010, 1), (0x2000, 9)]).video.byte (0x0010 + k)) ∧
    ∀ k, k < 32 → (start [(0x0010, 1)]).video.byte (0x3F00 + k) = (start [(0x0010, 1), (0x2000, 9)]).video.byte (0x3F00 + k) := by
  decide

/-- CompositeClosedForm, CompositeIsTheTileWalk and ComposedPixelsAreOpaque, at the last pixels, the corner among them. -/
theorem wit_Composite :
    (∃ t, exec .composeFrame start = .next t) ∧ 511 < 512 ∧ 479 < 480 ∧ 255 < 256 ∧ 239 < 240 ∧ 255 + scrollXEff start < 512 ∧
    let s : State := { start with scrollX := 255, scrollY := 239, control := 0x03 }
    (∃ t, exec .composeFrame s = .next t) ∧ 512 ≤ 255 + scrollXEff s ∧ 480 ≤ 239 + scrollYEff s :=
  ⟨⟨_, rfl⟩, by decide, by decide, by decide, by decide, by decide, ⟨_, rfl⟩, by decide⟩

/-- The first cell of the first attribute row, and the last tile that attribute row 7 serves. -/
theorem wit_AttributeQuadrants :
    (0 < 8 ∧ 4 * 0 + 2 * (0 : Fin 2).val + (0 : Fin 2).val < 30) ∧ 7 < 8 ∧ 4 * 7 + 2 * (0 : Fin 2).val + (1 : Fin 2).val < 30 := by
  decide

/-- No sprite shows at a pixel of each of the three wrapping cases. -/
theorem wit_Viewport :
    let s : State := { start with scrollX := 255, scrollY := 239, control := 0x03 }
    (∃ t, exec .composeFrame s = .next t) ∧
    (∀ n, n < 64 → recordPixel s.video s (spriteRecord s n) 0 0 = .transparent) ∧
    (0 + scrollXEff s < 512 ∧ 0 + scrollYEff s < 480) ∧
    ((∀ n, n < 64 → recordPixel s.video s (spriteRecord s n) 0 239 = .transparent) ∧ 480 ≤ 239 + scrollYEff s) ∧
    ((∀ n, n < 64 → recordPixel s.video s (spriteRecord s n) 255 0 = .transparent) ∧ 512 ≤ 255 + scrollXEff s) :=
  ⟨⟨_, rfl⟩, by decide +kernel, by decide, ⟨by decide +kernel, by decide⟩, by decide +kernel, by decide⟩

theorem wit_UnscrolledFrame :
    let s : State := { start with control := 0x03 }
    (∃ t, exec .composeFrame s = .next t) ∧ s.scrollX = 0 ∧ s.scrollY = 0 ∧
    ∀ n, n < 64 → recordPixel s.video s (spriteRecord s n) 255 239 = .transparent := ⟨⟨_, rfl⟩, rfl, rfl, by decide +kernel⟩

theorem wit_EmptyPatterns :
    let s := start [(0x3F00, 0x7F)]
    (∃ t, exec .composeFrame s = .next t) ∧ (∀ k, k < 0x2000 → s.vramByte k = 0) ∧ 255 + scrollXEff s < 512 ∧
    (0x3F : Fin 64).val = (s.vramByte 0x3F00).toNat % 64 := by
  refine ⟨⟨_, rfl⟩, fun k hk => ?_, by decide, by decide⟩
  show (if k = 0x3F00 then (0x7F : Byte) else 0) = 0
  rw [if_neg (by omega)]

/-- A pixel where record 0 shows and no higher one does, and a pixel where none shows. -/
theorem wit_HighestOpaqueSprite :
    let s := sprite 0 [5, 1, 0, 5] [(0x0010, 0xFF)]
    (∃ t, exec .composeFrame s = .next t) ∧
    (recordPixel s.video s (spriteRecord s 0) 5 5 = .solid (M 0x11) ∧
      ∀ m, m < 64 → 0 < m → recordPixel s.video s (spriteRecord s m) 5 5 = .transparent) ∧
    ∀ n, n < 64 → recordPixel s.video s (spriteRecord s n) 0 0 = .transparent :=
  ⟨⟨_, rfl⟩, by decide +kernel, by decide +kernel⟩

/-- SpritePassIsThePixelLoop at the last frame pixel. -/
theorem wit_SpritePass : 255 < 256 ∧ 239 < 240 := by decide

theorem wit_TallSpriteFlip :
    let s : State := { start with control := 0x20 }
    spritesTall s = true ∧ (SpriteRecord.mk 0x20 0x03 0x41 0x40).flipV = false ∧
    SpriteRecord.mk 0x20 0x03 0xC1 0x40 =
      { SpriteRecord.mk 0x20 0x03 0x41 0x40 with attr := (SpriteRecord.mk 0x20 0x03 0x41 0x40).attr ||| 0x80 } ∧ 15 < 16 := by
  decide

theorem wit_SpritesBelow : 240 ≤ (spriteRecord (sprite 0 [240, 1, 0, 0] []) 0).y ∧ 239 < 240 := by decide

/-- OAM with the priority bit of record 0 set. -/
theorem wit_PriorityBit : ∀ (i : Nat) (h : i < 256),
    let o : Vector Byte 256 := tabulate 256 fun i => if i = 2 then 0x20 else 0
    if i % 4 = 2 then o[i] &&& 0xC3 = start.oam[i] &&& 0xC3 else o[i] = start.oam[i] := by decide +kernel

/-- Two states that differ in `mask`, `status`, `oamAddr`, the controller and CPU memory, with the same frame before. -/
theorem wit_CompositionReads :
    let s := start b1
    let s' : State := { start b1 [(5, 5)] with mask := 0xFF, status := 0x80, oamAddr := 9, controllerLatch := true }
    (∀ k, k < 0x4000 → s.vramByte k = s'.vramByte k) ∧ s.oam = s'.oam ∧ s.control = s'.control ∧ s.scrollX = s'.scrollX ∧
    s.scrollY = s'.scrollY ∧ s.params = s'.params ∧ s.frame = s'.frame ∧ s.draws = s'.draws ∧ 255 + scrollXEff s < 512 ∧
    ∃ t t', exec .composeFrame s = .next t ∧ exec .composeFrame s' = .next t' :=
  ⟨fun _ _ => rfl, rfl, rfl, rfl, rfl, rfl, rfl, rfl, by decide, _, _, rfl, rfl⟩

/-- A memory that differs only at 0x3000 and at palette entry 16. -/
theorem wit_UnreadVideoBytes : ∀ k, k < 0x3000 ∨ k = 0x3F00 ∨ (0x3F00 ≤ k ∧ k < 0x3F20 ∧ k % 4 ≠ 0) →
    Memory.read [(0x3000, 7), (0x3F10, 5)] k = start.vram.read k := by
  intro k hk
  show (if k = 0x3000 then (7 : Byte) else if k = 0x3F10 then 5 else 0) = 0
  rw [if_neg (by omega), if_neg (by omega)]

/-- StepKeepsTheInvariant, MarksAreSetOnceAndForAll and MarksChangeNoBehaviour: a state with the invariant that takes a step. -/
theorem wit_Steps :
    let s : State := { start b1 [(5, 5)] with pending := [0x1200500], refused := true, faulted := true }
    Inv s ∧ (∃ t, step s = .next t) ∧ s.refused = true ∧ s.faulted = true :=
  ⟨⟨by decide, by decide, by decide, by decide, by decide, by decide⟩, ⟨_, rfl⟩, rfl, rfl⟩

/-- Steps that set each mark. -/
theorem wit_MarksAreSet :
    (∃ t, step { start with pending := [0x0000001] } = .next t ∧ t.refused ≠ start.refused) ∧
    ∃ t, step { under { testParams with vramIndex := .fault } start with vramAddr := 0x4000, pending := [0x1200700] } = .next t ∧
      t.faulted ≠ start.faulted := ⟨⟨_, rfl, by decide⟩, _, rfl, by decide⟩

/-- One operation that each clause of OnlyTheNamedOperationsWrite speaks about. -/
theorem wit_OnlyTheNamedOperations :
    (∃ t, exec (.writeRamLow 0 1) start = .next t) ∧ (∀ a v, Instr.writeRamLow 0 1 ≠ .writeControl a v) ∧
    (∃ t, exec (.writeControl 0x2000 1) start = .next t) ∧ (∀ a v, Instr.writeControl 0x2000 1 ≠ .writeRamLow a v) ∧
    Instr.writeRamLow 0 1 ≠ .init := by
  refine ⟨⟨_, rfl⟩, ?_, ⟨_, rfl⟩, ?_, ?_⟩ <;> simp

end Sys2Proof.Tests
end

section
/-! The invariant at launch, and so at reset. -/

namespace Sys2Proof.Machine

/-- Distinct control bits in `defaultParams` (R9, log 12). -/
theorem defaultParams_wf : defaultParams.wf := by decide

/-- Both ports start with the shift mask 0 (R41). -/
@[simp] theorem State.launch_currentBit (params : Params) (cpuMem0 vram0 : Memory) (scrollX0 scrollY0 : Byte) (p : Port) :
    (State.launch params cpuMem0 vram0 scrollX0 scrollY0).currentBit[p] = 0 := by
  simp [State.launch]

/-- A launch (R320) needs only legal parameters and canonical memories: INIT's copies are the memories themselves. -/
theorem State.launch_inv {params : Params} {cpuMem0 vram0 : Memory} (scrollX0 scrollY0 : Byte) (hp : params.wf)
    (hc : cpuMem0.wf Config.cpuMemSize) (hv : vram0.wf Config.vramSize) :
    Inv (State.launch params cpuMem0 vram0 scrollX0 scrollY0) where
  params := hp
  cpuMem := hc
  vram := hv
  cpuMem0 := hc
  vram0 := hv
  masks p := by rw [State.launch_currentBit]; decide

/-- Settles O56: reset is the launch under the default parameters with no byte listed in either memory. -/
theorem resetMeetsTheInvariant : Obligations.ResetMeetsTheInvariant :=
  State.launch_inv 0 0 defaultParams_wf (Memory.wf_nil _) (Memory.wf_nil _)

end Sys2Proof.Machine
end

section
/-! What one operation can do, said once (spec/10_state.md R22), and what a step keeps by it. -/

namespace Sys2Proof.Machine

/-! ### The effects of an operation -/

/-- What an operation leaves of the state, but for the byte it returns (R14): an update of the fields R22 names for it, or no
more than bus reads do, which is also a diagnostic or the mark of R61 alone. An OAM DMA is its source reads (R146) and a new
OAM. -/
inductive ExecEffect (s : State) : Instr → State → Prop
  | reads {i : Instr} {r : State} {o : Vector Byte 256} (kept : KeptByReads s r)
      (currentBit : i ≠ .readJoy1 → i ≠ .readJoy2 → ((∃ v, i = .writeOamDma v) → s.params.dmaSource ≠ .mapped) →
        r.currentBit = s.currentBit)
      (oam : (∀ v, i ≠ .writeOamDma v) → o = s.oam) : ExecEffect s i (r.setOam o)
  | ramLow (a : Addr) (v : Byte) : ExecEffect s (.writeRamLow a v) (s.writeCpuByte (addrMap a) v)
  | ramHigh (a : Addr) (v : Byte) : ExecEffect s (.writeRamHigh a v) (s.writeCpuByte (addrMap a) v)
  | control (a : Addr) (v : Byte) : ExecEffect s (.writeControl a v) (s.setControl v)
  | mask (a : Addr) (v : Byte) : ExecEffect s (.writeMask a v) (s.setMask v)
  | oamAddr (a : Addr) (v : Byte) : ExecEffect s (.writeOamAddr a v) (s.setOamAddr v)
  | oamData (a : Addr) (v : Byte) : ExecEffect s (.writeOamData a v)
      ((s.setOam (s.oam.set s.oamAddr.toNat v s.oamAddr.isLt)).setOamAddr (s.oamAddr + 1))
  | vramAddr (a : Addr) (v : Byte) : ExecEffect s (.writeVramAddr a v)
      ((s.setVramAddr (latchVramAddr s.writeLatch s.vramAddr v)).setWriteLatch (flipLatch s.writeLatch))
  | vramData (a : Addr) (v : Byte) {k : Nat} (hk : k < 0x4000) : ExecEffect s (.writeVramData a v) (s.writeVramByte k v)
  | strobe (v : Byte) : ExecEffect s (.writeJoyStrobe v) (s.setControllerLatch (strobeLatch v))
  | strobeClears (v : Byte) (h : s.params.strobeReset = .onLatchWrite) : ExecEffect s (.writeJoyStrobe v)
      (((s.setControllerLatch (strobeLatch v)).setCurrentBit 0 0).setCurrentBit 1 0)
  | init : ExecEffect s .init (initState s)
  | composeFrame : ExecEffect s .composeFrame (composeFrame s)
  | sampleInput (p : Port) (v : Byte) : ExecEffect s (.sampleInput p v) (s.setButtons p v)

/-- An operation that does no more than a bus read other than a poll. -/
theorem ExecEffect.quiet {i : Instr} {s u : State} (kept : KeptByReads s u) (hbit : u.currentBit = s.currentBit) :
    ExecEffect s i u :=
  .reads (r := u) (o := u.oam) kept (fun _ _ _ => hbit) fun _ => kept.oam

/-- A poll (R154, R155). -/
theorem ExecEffect.poll (p : Port) (s : State) : ExecEffect s (joyRead p) (pollRead p s).1 :=
  have kept := (pollRead_effect p s).kept
  .reads (r := (pollRead p s).1) (o := (pollRead p s).1.oam) kept
    (fun h1 h2 => by fin_cases p <;> simp [joyRead] at h1 h2) fun _ => kept.oam

theorem statusRead_currentBit (s : State) : (statusRead s).1.currentBit = s.currentBit := by
  unfold statusRead; split <;> rfl

theorem vramDataRead_currentBit (s : State) : (vramDataRead s).1.currentBit = s.currentBit := by
  unfold vramDataRead; split <;> rfl

theorem dmaPortRead_currentBit (s : State) : (dmaPortRead s).1.currentBit = s.currentBit := by
  unfold dmaPortRead; split <;> rfl

theorem unimplementedWrite_kept (a : Addr) (s : State) : KeptByReads s (unimplementedWrite a s) where
  __ := (unimplementedRead_effect a s).kept
  diag := List.prefix_append _ _

theorem markFaulted_kept {s : State} (hf : s.params.vramIndex = .fault) (hv : 0x4000 ≤ s.vramAddr.toNat) :
    KeptByReads s s.markFaulted where
  __ := KeptByReads.refl s
  faulted := .inr ⟨rfl, hf, hv⟩

/-- An OAM DMA changes OAM at the state its source reads leave. -/
theorem oamDma_eq (page : Byte) (s : State) :
    oamDma page s = (dmaReads s.params.dmaSource page s 256).setOam (oamDma page s).oam :=
  congrArg (fun u => u.setOam (oamDma page s).oam) (oamDma_spec page s).1

theorem dmaReads_of_ne_mapped {mode : DmaSource} (h : mode ≠ .mapped) (page : Byte) (s : State) (n : Nat) :
    dmaReads mode page s n = s := by
  cases mode with
  | raw => exact dmaReads_raw page s n
  | mapped => exact absurd rfl h

theorem oamDma_effect (page : Byte) (s : State) : ExecEffect s (.writeOamDma page) (oamDma page s) := by
  rw [oamDma_eq]
  refine .reads (dmaReads_kept _ page s 256) (fun _ _ hmode => ?_) fun h => absurd rfl (h page)
  rw [dmaReads_of_ne_mapped (hmode ⟨page, rfl⟩)]

theorem vramDataWrite_effect (a : Addr) (v : Byte) (s : State) :
    ExecEffect s (.writeVramData a v) (vramDataWrite v s) := by
  rcases vramDataWrite_cases v s with ⟨k, hk, h⟩ | ⟨hf, hv, h⟩
  · rw [h]; exact .vramData a v hk
  · rw [h]; exact .quiet (markFaulted_kept hf hv) rfl

theorem strobeWrite_effect (v : Byte) (s : State) : ExecEffect s (.writeJoyStrobe v) (strobeWrite v s) := by
  rcases strobeWrite_cases v s with ⟨hp, h⟩ | h
  · rw [h]; exact .strobeClears v hp
  · rw [h]; exact .strobe v

theorem oamDataWrite_effect (a : Addr) (v : Byte) (s : State) :
    ExecEffect s (.writeOamData a v) (oamDataWrite v s) := by
  rw [oamDataWrite_eq]; exact .oamData a v

theorem unimplementedRead_quiet (i : Instr) (a : Addr) (s : State) : ExecEffect s i (unimplementedRead a s).1 :=
  .quiet (unimplementedRead_effect a s).kept rfl

theorem unimplementedWrite_quiet (i : Instr) (a : Addr) (s : State) : ExecEffect s i (unimplementedWrite a s) :=
  .quiet (unimplementedWrite_kept a s) rfl

/-- Every operation completes with one of the effects. -/
theorem exec_effect (i : Instr) (s : State) : ∃ u r, exec i s = .next (u.setResult r) ∧ ExecEffect s i u :=
  match i with
  | .readRamLow _ | .readRamHigh _ => ⟨_, _, rfl, .quiet (.refl s) rfl⟩
  | .readControl a | .readMask a | .readOamAddr a | .readOamData a | .readScroll a | .readVramAddr a
  | .readApu4000 a | .readApu4010 a => ⟨_, _, rfl, unimplementedRead_quiet _ a s⟩
  | .readApu4015 => ⟨_, _, rfl, unimplementedRead_quiet _ 0x4015 s⟩
  | .readStatus _ => ⟨_, _, rfl, .quiet (statusRead_effect s).kept (statusRead_currentBit s)⟩
  | .readVramData _ => ⟨_, _, rfl, .quiet (vramDataRead_effect s).kept (vramDataRead_currentBit s)⟩
  | .read4014 => ⟨_, _, rfl, .quiet (dmaPortRead_effect s).kept (dmaPortRead_currentBit s)⟩
  | .readJoy1 => ⟨_, _, rfl, .poll 0 s⟩
  | .readJoy2 => ⟨_, _, rfl, .poll 1 s⟩
  | .writeRamLow a v => ⟨_, _, rfl, .ramLow a v⟩
  | .writeRamHigh a v => ⟨_, _, rfl, .ramHigh a v⟩
  | .writeControl a v => ⟨_, _, rfl, .control a v⟩
  | .writeMask a v => ⟨_, _, rfl, .mask a v⟩
  | .writeStatus a _ | .writeScroll a _ | .writeApu4000 a _ | .writeApu4010 a _ =>
    ⟨_, _, rfl, unimplementedWrite_quiet _ a s⟩
  | .writeApu4015 _ => ⟨_, _, rfl, unimplementedWrite_quiet _ 0x4015 s⟩
  | .writeApu4017 _ => ⟨_, _, rfl, unimplementedWrite_quiet _ 0x4017 s⟩
  | .writeOamAddr a v => ⟨_, _, rfl, .oamAddr a v⟩
  | .writeOamData a v => ⟨_, _, rfl, oamDataWrite_effect a v s⟩
  | .writeVramAddr a v => ⟨_, _, rfl, .vramAddr a v⟩
  | .writeVramData a v => ⟨_, _, rfl, vramDataWrite_effect a v s⟩
  | .writeOamDma page => ⟨_, _, rfl, oamDma_effect page s⟩
  | .writeJoyStrobe v => ⟨_, _, rfl, strobeWrite_effect v s⟩
  | .init => ⟨_, _, rfl, .init⟩
  | .composeFrame => ⟨_, _, rfl, .composeFrame⟩
  | .sampleInput p v => ⟨_, _, rfl, .sampleInput p v⟩

/-- The one next state an operation can answer. -/
theorem exec_cases {i : Instr} {s t : State} (h : exec i s = .next t) : ∃ u r, t = u.setResult r ∧ ExecEffect s i u := by
  obtain ⟨u, r, hexec, heffect⟩ := exec_effect i s
  rw [hexec] at h
  injection h with h
  exact ⟨u, r, h.symm, heffect⟩

/-! ### The invariant -/

theorem KeptByReads.inv {s t : State} (kept : KeptByReads s t) (h : Inv s) : Inv t where
  params := kept.params ▸ h.params
  cpuMem := kept.cpuMem ▸ h.cpuMem
  vram := kept.vram ▸ h.vram
  cpuMem0 := kept.cpuMem0 ▸ h.cpuMem0
  vram0 := kept.vram0 ▸ h.vram0
  masks := kept.masks h.masks

theorem State.writeCpuByte_inv {s : State} (h : Inv s) (a : Addr) (v : Byte) : Inv (s.writeCpuByte a v) :=
  { h with cpuMem := Memory.wf_write h.cpuMem a.isLt v }

theorem initState_inv {s : State} (h : Inv s) : Inv (initState s) :=
  { h with
    cpuMem := h.cpuMem0
    vram := h.vram0
    masks := fun p => by
      have hzero : (initState s).currentBit[p] = 0 := by simp
      rw [hzero]; rfl }

theorem ExecEffect.inv {i : Instr} {s u : State} (heffect : ExecEffect s i u) (h : Inv s) : Inv u := by
  cases heffect with
  | reads kept _ _ => exact { kept.inv h with }
  | ramLow a v => exact State.writeCpuByte_inv h _ v
  | ramHigh a v => exact State.writeCpuByte_inv h _ v
  | vramData a v hk => exact { h with vram := Memory.wf_write h.vram hk v }
  | strobeClears v _ =>
    exact { h with masks := State.setCurrentBit_legal rfl (State.setCurrentBit_legal rfl h.masks) }
  | init => exact initState_inv h
  | _ => exact { h with }

/-- Settles O57: what an operation leaves of a state with the invariant has it, and neither the list of issued words, the
returned byte nor the mark of a refused word is a part of it. -/
theorem stepKeepsTheInvariant : Obligations.StepKeepsTheInvariant := by
  intro s t h hstep
  obtain ⟨-, rfl⟩ | ⟨w, rest, i, -, -, hexec⟩ | ⟨w, rest, e, -, -, rfl⟩ := step_cases hstep
  · exact h
  · obtain ⟨u, r, rfl, heffect⟩ := exec_cases hexec
    have hrest : Inv (s.setPending rest) := { h with }
    exact { heffect.inv hrest with }
  · exact { h with }

/-! ### The marks -/

theorem ExecEffect.refused {i : Instr} {s u : State} (heffect : ExecEffect s i u) : u.refused = s.refused := by
  cases heffect with
  | reads kept _ _ => exact kept.refused
  | _ => rfl

theorem ExecEffect.faulted {i : Instr} {s u : State} (heffect : ExecEffect s i u) :
    u.faulted = s.faulted ∨ (u.faulted = true ∧ s.params.vramIndex = .fault ∧ 0x4000 ≤ s.vramAddr.toNat) := by
  cases heffect with
  | reads kept _ _ => exact kept.faulted
  | _ => exact .inl rfl

/-- Settles O58: no operation touches `refused`, only a source or data port access past VideoMemory sets `faulted`, and a
refused word sets `refused` alone. -/
theorem marksAreSetOnceAndForAll : Obligations.MarksAreSetOnceAndForAll := by
  intro s t hstep
  obtain ⟨-, rfl⟩ | ⟨w, rest, i, -, -, hexec⟩ | ⟨w, rest, e, hpending, hdecode, rfl⟩ := step_cases hstep
  · exact ⟨id, id, fun h => absurd rfl h, fun h => absurd rfl h⟩
  · obtain ⟨u, r, rfl, heffect⟩ := exec_cases hexec
    have hr : u.refused = s.refused := heffect.refused
    rcases heffect.faulted with hf | ⟨hf, hmark⟩
    · exact ⟨hr.trans, hf.trans, fun h => absurd hr h, fun h => absurd hf h⟩
    · exact ⟨hr.trans, fun _ => hf, fun h => absurd hr h, fun _ => hmark⟩
  · exact ⟨fun _ => rfl, id, fun _ => ⟨w, rest, e, hpending, hdecode⟩, fun h => absurd rfl h⟩

/-! ### The fields each operation writes -/

/-- Settles O60: each effect names the fields it updates, and what bus reads keep is the rest of an OAM DMA and of every
operation that updates none. -/
theorem onlyTheNamedOperationsWrite : Obligations.OnlyTheNamedOperationsWrite := by
  intro i s t hexec
  obtain ⟨u, r, rfl, heffect⟩ := exec_cases hexec
  cases heffect with
  | reads kept hbit hoam =>
    exact ⟨fun _ _ => kept.control, fun _ _ => kept.mask, fun _ => ⟨kept.status, kept.scrollX, kept.scrollY⟩,
      fun _ _ _ => kept.oamAddr, fun _ _ => ⟨kept.vramAddr, kept.writeLatch⟩, fun _ _ => kept.buttons,
      fun h1 h2 _ _ hmode => hbit h1 h2 hmode, fun _ _ => kept.controllerLatch, fun _ h _ => hoam h,
      fun _ _ _ => kept.cpuMem, fun _ _ => kept.vram, fun _ _ => ⟨kept.composite, kept.frame⟩, fun _ => kept.diag,
      kept.params, kept.cpuMem0, kept.vram0, kept.pending⟩
  | ramLow a v => simp
  | ramHigh a v => simp
  | control a v => simp
  | mask a v => simp
  | oamAddr a v => simp
  | oamData a v => simp
  | vramAddr a v => simp
  | vramData a v hk => simp
  | strobe v => simp
  | strobeClears v h => simp [h]
  | init => simp
  | composeFrame => simp
  | sampleInput p v => simp

/-! ### The step -/

/-- Settles O8: the two cases of `step`, with the word decoded in the first. -/
theorem stepRunsTheDecodedOperation : Obligations.StepRunsTheDecodedOperation := by
  refine ⟨fun s w rest i hpending hdecode => ?_, fun s hpending => ?_⟩
  · simp only [step, hpending, runWord, hdecode, State.setPending]
  · simp only [step, hpending, idle]

end Sys2Proof.Machine
end

section
/-! The VRAM address port: the word that reaches it, and the two writes that set an address (spec/20_memory.md R63). -/

namespace Sys2Proof

/-- Only the addresses of a register slot are normalised to it (R120). -/
theorem inSlot_of_mapped {k : Nat} {a : Addr} (hk : k < 8) (h : mapped a = 0x2000 + k) : inSlot k a = true := by
  rw [mapped, Machine.toNat_addrMap] at h
  simp only [inSlot, Bool.and_eq_true, decide_eq_true_eq]
  split_ifs at h <;> omega

/-- A write word at slot 6 is the address port's in the table: every earlier row tests another kind, range or slot. -/
theorem decode_busWriteWord_slot6 {a : Addr} (h : inSlot 6 a = true) (v : Byte) :
    decode (busWriteWord a v) = .ok (.writeVramAddr a v) := by
  simp only [inSlot, Bool.and_eq_true, decide_eq_true_eq] at h
  have hv := v.isLt
  rw [decode_chain]
  simp (disch := omega) only [toNat_busWriteWord, if_neg, if_pos, wordAddr_busWriteWord, wordData_busWriteWord]

namespace Machine

/-- One step on a write word of the address port. -/
theorem step_vramAddrWrite {s : State} {a : Addr} {v : Byte} {rest : List OpWord} (ha : mapped a = 0x2006)
    (hpending : s.pending = busWriteWord a v :: rest) :
    step s = .next ((vramAddrWrite v (s.setPending rest)).setResult none) :=
  stepRunsTheDecodedOperation.1 s _ rest _ hpending
    (decode_busWriteWord_slot6 (inSlot_of_mapped (k := 6) (by decide) ha) v)

/-- The first write of a pair sets the high byte (R135). -/
theorem step_vramAddrWrite_high {s : State} {a : Addr} {v : Byte} {rest : List OpWord} (ha : mapped a = 0x2006)
    (hlatch : s.writeLatch = false) (hpending : s.pending = busWriteWord a v :: rest) :
    step s = .next { s with
      vramAddr := v ++ s.vramAddr.extractLsb' 0 8, writeLatch := true, result := none, pending := rest } := by
  rw [step_vramAddrWrite ha hpending, vramAddrWrite, State.setPending_writeLatch, hlatch, latchVramAddr_high]
  rfl

/-- The second write of a pair sets the low byte (R135). -/
theorem step_vramAddrWrite_low {s : State} {a : Addr} {v : Byte} {rest : List OpWord} (ha : mapped a = 0x2006)
    (hlatch : s.writeLatch = true) (hpending : s.pending = busWriteWord a v :: rest) :
    step s = .next { s with
      vramAddr := s.vramAddr.extractLsb' 8 8 ++ v, writeLatch := false, result := none, pending := rest } := by
  rw [step_vramAddrWrite ha hpending, vramAddrWrite, State.setPending_writeLatch, hlatch, latchVramAddr_low]
  rfl

/-- Settles O23: the first write sets the high byte and turns the latch to the low one; the second keeps that byte. -/
theorem twoVramAddrWritesMakeTheAddress : Obligations.TwoVramAddrWritesMakeTheAddress := by
  intro s a b hi lo rest ha hb hlatch hpending
  have hkeep : (hi ++ s.vramAddr.extractLsb' 0 8).extractLsb' 8 8 = hi := BitVec.extractLsb'_append_eq_left
  have hhigh := step_vramAddrWrite_high ha hlatch hpending
  refine ⟨_, .more hhigh (.more (step_vramAddrWrite_low hb rfl rfl) (.zero _)), ?_⟩
  rw [hkeep, hlatch]

end Machine
end Sys2Proof
end

section
/-! The encoding (spec/30_encoding.md). Encoding then decoding gives the operation back (R96); every word that R99 does not
refuse is the encoding of a well-formed operation; and R99's words reach no row. The other direction of the round trip
follows from these three. -/

namespace Sys2Proof

/-! ### The fields a row's mask tests -/

section
variable (w : OpWord)

/-- A word is its kind, address and data (R90, R92). -/
theorem toNat_eq_fields :
    w.toNat = (wordKind w).toNat * 16777216 + (wordAddr w).toNat * 256 + (wordData w).toNat := by
  have hw := w.isLt
  rw [toNat_wordKind, toNat_wordAddr, toNat_wordData]
  omega

theorem toNat_div_2097152 : w.toNat / 2097152 % 32 = (wordKind w).toNat * 8 + (wordAddr w).toNat / 8192 := by
  have hw := w.isLt
  rw [toNat_wordKind, toNat_wordAddr]
  omega

theorem toNat_mod_2048 : w.toNat % 2048 = (wordAddr w).toNat % 8 * 256 + (wordData w).toNat := by
  rw [toNat_wordAddr, toNat_wordData]
  omega

theorem toNat_div_4096 : w.toNat / 4096 % 16384 = (wordKind w).toNat * 4096 + (wordAddr w).toNat / 16 := by
  have hw := w.isLt
  rw [toNat_wordKind, toNat_wordAddr]
  omega

theorem toNat_div_1024 : w.toNat / 1024 % 65536 = (wordKind w).toNat * 16384 + (wordAddr w).toNat / 4 := by
  have hw := w.isLt
  rw [toNat_wordKind, toNat_wordAddr]
  omega

theorem toNat_mod_67108864 : w.toNat % 67108864 =
    (wordKind w).toNat * 16777216 + (wordAddr w).toNat * 256 + (wordData w).toNat := by
  rw [Nat.mod_eq_of_lt w.isLt, toNat_eq_fields]

theorem toNat_div_16777216 : w.toNat / 16777216 % 4 = (wordKind w).toNat := by
  have hw := w.isLt
  rw [toNat_wordKind]
  omega

theorem toNat_div_256_mod_8 : w.toNat / 256 % 8 = (wordAddr w).toNat % 8 := by
  rw [toNat_wordAddr]
  omega

theorem toNat_div_256 : w.toNat / 256 % 262144 = (wordKind w).toNat * 65536 + (wordAddr w).toNat := by
  have hw := w.isLt
  rw [toNat_wordKind, toNat_wordAddr]
  omega

theorem toNat_div_512 : w.toNat / 512 % 131072 = (wordKind w).toNat * 32768 + (wordAddr w).toNat / 2 := by
  have hw := w.isLt
  rw [toNat_wordKind, toNat_wordAddr]
  omega

theorem toNat_wordHostOp_eq : (wordHostOp w).toNat = (wordAddr w).toNat / 256 := by
  rw [toNat_wordHostOp, toNat_wordAddr]
  omega

/-- The operand of INIT and COMPOSE_FRAME (R94). -/
theorem toNat_extractLsb'_0_16 : (w.extractLsb' 0 16).toNat = (wordAddr w).toNat % 256 * 256 + (wordData w).toNat := by
  rw [BitVec.extractLsb'_toNat, Nat.shiftRight_zero, toNat_wordAddr, toNat_wordData]
  omega

/-- The reserved bits of SAMPLE_INPUT (R94). -/
theorem toNat_extractLsb'_9_7 : (w.extractLsb' 9 7).toNat = (wordAddr w).toNat % 256 / 2 := by
  rw [BitVec.extractLsb'_toNat, Nat.shiftRight_eq_div_pow, toNat_wordAddr]
  omega

end

/-! ### Words from their fields -/

/-- SAMPLE_INPUT's operand as a number (R94). -/
theorem toNat_sampleOperand (p : Port) (v : Byte) : (BitVec.ofNat 8 p.val ++ v).toNat = p.val * 256 + v.toNat := by
  rw [BitVec.toNat_append, ← Nat.shiftLeft_add_eq_or_of_lt v.isLt, Nat.shiftLeft_eq, BitVec.toNat_ofNat]
  have hp := p.isLt
  omega

theorem toNat_encode_sampleInput (p : Port) (v : Byte) :
    (encode (.sampleInput p v)).toNat = 0x2020000 + p.val * 256 + v.toNat := by
  rw [encode, toNat_hostWord, toNat_sampleOperand]
  simp [← Nat.add_assoc]

@[simp] theorem wordPort_encode_sampleInput (p : Port) (v : Byte) : wordPort (encode (.sampleInput p v)) = p := by
  apply Fin.ext
  rw [wordPort_val, toNat_encode_sampleInput]
  have hp := p.isLt
  have hv := v.isLt
  omega

@[simp] theorem wordData_encode_sampleInput (p : Port) (v : Byte) : wordData (encode (.sampleInput p v)) = v := by
  apply BitVec.eq_of_toNat_eq
  rw [toNat_wordData, toNat_encode_sampleInput]
  have hv := v.isLt
  omega

@[simp] theorem wordData_busReadWord (a : Addr) : wordData (busReadWord a) = 0 := by
  apply BitVec.eq_of_toNat_eq
  rw [toNat_wordData, toNat_busReadWord]
  simp

theorem busReadWord_wordAddr {w : OpWord} (hkind : (wordKind w).toNat = 0) (hdata : (wordData w).toNat = 0) :
    busReadWord (wordAddr w) = w := by
  apply BitVec.eq_of_toNat_eq
  rw [toNat_busReadWord, toNat_eq_fields w, hkind, hdata]
  omega

theorem busWriteWord_wordAddr {w : OpWord} (hkind : (wordKind w).toNat = 1) :
    busWriteWord (wordAddr w) (wordData w) = w := by
  apply BitVec.eq_of_toNat_eq
  rw [toNat_busWriteWord, toNat_eq_fields w, hkind]

theorem encode_sampleInput_wordPort {w : OpWord} (hkind : (wordKind w).toNat = 2)
    (haddr : (wordAddr w).toNat / 2 = 0x100) : encode (.sampleInput (wordPort w) (wordData w)) = w := by
  apply BitVec.eq_of_toNat_eq
  rw [toNat_encode_sampleInput, wordPort_val, toNat_eq_fields w, hkind]
  have hd := (wordData w).isLt
  omega

/-! ### Decoding the words of the two bus formats -/

/-- The operation of a BUS_READ word: the row whose addresses (R102) hold the address. -/
theorem decode_busReadWord (a : Addr) : decode (busReadWord a) =
    if inRamLow a then .ok (.readRamLow a) else
    if inSlot 0 a then .ok (.readControl a) else
    if inSlot 1 a then .ok (.readMask a) else
    if inSlot 2 a then .ok (.readStatus a) else
    if inSlot 3 a then .ok (.readOamAddr a) else
    if inSlot 4 a then .ok (.readOamData a) else
    if inSlot 5 a then .ok (.readScroll a) else
    if inSlot 6 a then .ok (.readVramAddr a) else
    if inSlot 7 a then .ok (.readVramData a) else
    if inApu4000 a then .ok (.readApu4000 a) else
    if inApu4010 a then .ok (.readApu4010 a) else
    if a.toNat = 0x4014 then .ok .read4014 else
    if a.toNat = 0x4015 then .ok .readApu4015 else
    if a.toNat = 0x4016 then .ok .readJoy1 else
    if a.toNat = 0x4017 then .ok .readJoy2 else
    .ok (.readRamHigh a) := by
  have hkind : (0 : BitVec 2).toNat = 0 := rfl
  have hdata : (0 : Byte).toNat = 0 := rfl
  simp only [inRamLow, inSlot, inApu4000, inApu4010, Bool.and_eq_true, decide_eq_true_eq]
  rw [decode_chain, toNat_div_2097152, toNat_mod_2048, ← toNat_wordData, toNat_div_4096, toNat_div_1024,
    toNat_mod_67108864, toNat_div_16777216, Laws.EncodeKind.kind_busReadWord, wordAddr_busReadWord,
    wordData_busReadWord, hkind, hdata]
  iterate 15 refine if_congr (by omega) rfl ?_
  exact if_pos ⟨rfl, rfl⟩

/-- The operation of a BUS_WRITE word: the row whose addresses (R102) hold the address. -/
theorem decode_busWriteWord (a : Addr) (d : Byte) : decode (busWriteWord a d) =
    if inRamLow a then .ok (.writeRamLow a d) else
    if inSlot 0 a then .ok (.writeControl a d) else
    if inSlot 1 a then .ok (.writeMask a d) else
    if inSlot 2 a then .ok (.writeStatus a d) else
    if inSlot 3 a then .ok (.writeOamAddr a d) else
    if inSlot 4 a then .ok (.writeOamData a d) else
    if inSlot 5 a then .ok (.writeScroll a d) else
    if inSlot 6 a then .ok (.writeVramAddr a d) else
    if inSlot 7 a then .ok (.writeVramData a d) else
    if inApu4000 a then .ok (.writeApu4000 a d) else
    if inApu4010 a then .ok (.writeApu4010 a d) else
    if a.toNat = 0x4014 then .ok (.writeOamDma d) else
    if a.toNat = 0x4015 then .ok (.writeApu4015 d) else
    if a.toNat = 0x4016 then .ok (.writeJoyStrobe d) else
    if a.toNat = 0x4017 then .ok (.writeApu4017 d) else
    .ok (.writeRamHigh a d) := by
  have hkind : (1 : BitVec 2).toNat = 1 := rfl
  have ha := a.isLt
  have hd := d.isLt
  simp only [inRamLow, inSlot, inApu4000, inApu4010, Bool.and_eq_true, decide_eq_true_eq]
  rw [decode_chain, toNat_div_2097152, toNat_mod_2048, ← toNat_wordData, toNat_div_4096, toNat_div_1024,
    toNat_mod_67108864, toNat_div_16777216, toNat_div_256_mod_8, toNat_div_256, Laws.EncodeKind.kind_busWriteWord,
    wordAddr_busWriteWord, wordData_busWriteWord, hkind]
  -- no read row tests kind 1
  iterate 16 rw [if_neg (by omega)]
  iterate 15 refine if_congr (by omega) rfl ?_
  exact if_pos rfl

/-! ### From an operation to its word and back -/

/-- Settles O2. The address range of a bus operation decides which of the rows is the first to select its word (R96). -/
theorem decodeOfEncodeIsTheOperation : Obligations.DecodeOfEncodeIsTheOperation := by
  intro i hwf
  cases i with
  | readRamLow a | readControl a | readMask a | readStatus a | readOamAddr a | readOamData a | readScroll a
  | readVramAddr a | readVramData a | readApu4000 a | readApu4010 a | readRamHigh a =>
    rw [encode, decode_busReadWord]
    simp only [Instr.wellFormed, inRamLow, inSlot, inApu4000, inApu4010, inRamHigh, Bool.and_eq_true,
      decide_eq_true_eq] at hwf ⊢
    simp (disch := omega) only [if_neg, if_pos]
  | writeRamLow a d | writeControl a d | writeMask a d | writeStatus a d | writeOamAddr a d | writeOamData a d
  | writeScroll a d | writeVramAddr a d | writeVramData a d | writeApu4000 a d | writeApu4010 a d | writeRamHigh a d =>
    rw [encode, decode_busWriteWord]
    simp only [Instr.wellFormed, inRamLow, inSlot, inApu4000, inApu4010, inRamHigh, Bool.and_eq_true,
      decide_eq_true_eq] at hwf ⊢
    simp (disch := omega) only [if_neg, if_pos]
  | writeOamDma d | writeApu4015 d | writeJoyStrobe d | writeApu4017 d => rw [encode, decode_busWriteWord]; rfl
  | sampleInput p v =>
    have hp := p.isLt
    have hv := v.isLt
    rw [decode_chain]
    simp (disch := omega) only [toNat_encode_sampleInput, if_neg, if_pos, wordPort_encode_sampleInput,
      wordData_encode_sampleInput]
  | read4014 | readApu4015 | readJoy1 | readJoy2 | init | composeFrame => decide

/-! ### The refused words -/

/-- The words of R99. -/
def RefusedWord (w : OpWord) : Prop :=
  wordKind w = 3 ∨ (wordKind w = 0 ∧ wordData w ≠ 0) ∨ (wordKind w = 2 ∧ 3 ≤ (wordHostOp w).toNat) ∨
  (wordKind w = 2 ∧ (wordHostOp w = 0 ∨ wordHostOp w = 1) ∧ w.extractLsb' 0 16 ≠ 0) ∨
  (wordKind w = 2 ∧ wordHostOp w = 2 ∧ w.extractLsb' 9 7 ≠ 0)

/-- R99 with the fields as numbers, `hostop` and the operand as parts of the address field. -/
theorem refusedWord_iff (w : OpWord) : RefusedWord w ↔
    (wordKind w).toNat = 3 ∨ ((wordKind w).toNat = 0 ∧ (wordData w).toNat ≠ 0) ∨
    ((wordKind w).toNat = 2 ∧ 3 ≤ (wordAddr w).toNat / 256) ∨
    ((wordKind w).toNat = 2 ∧ ((wordAddr w).toNat / 256 = 0 ∨ (wordAddr w).toNat / 256 = 1) ∧
      (wordAddr w).toNat % 256 * 256 + (wordData w).toNat ≠ 0) ∨
    ((wordKind w).toNat = 2 ∧ (wordAddr w).toNat / 256 = 2 ∧ (wordAddr w).toNat % 256 / 2 ≠ 0) := by
  simp only [RefusedWord, ne_eq, ← BitVec.toNat_inj, toNat_wordHostOp_eq, toNat_extractLsb'_0_16, toNat_extractLsb'_9_7,
    BitVec.reduceToNat]

/-- A word of R99 fails the mask test of each of the 35 rows. -/
theorem decode_of_refusedWord {w : OpWord} (h : RefusedWord w) : decode w = .error (rejectReason w) := by
  have ha := (wordAddr w).isLt
  have hd := (wordData w).isLt
  rw [refusedWord_iff] at h
  rw [decode_chain, toNat_div_2097152, toNat_mod_2048, ← toNat_wordData, toNat_div_4096, toNat_div_1024,
    toNat_mod_67108864, toNat_div_16777216, toNat_div_256_mod_8, toNat_div_256, toNat_div_512]
  iterate 35 rw [if_neg (by omega)]

/-! ### Every other word is an operation's -/

/-- The address sets of the bus rows cover the 16-bit addresses (R96, R102). -/
theorem addr_cases (a : Addr) :
    inRamLow a = true ∨ (∃ k, k < 8 ∧ inSlot k a = true) ∨ inApu4000 a = true ∨ inApu4010 a = true ∨
    (a = 0x4014 ∨ a = 0x4015 ∨ a = 0x4016 ∨ a = 0x4017) ∨ inRamHigh a = true := by
  have hslot : (∃ k, k < 8 ∧ inSlot k a = true) ↔ 0x2000 ≤ a.toNat ∧ a.toNat < 0x4000 := by
    simp only [inSlot, Bool.and_eq_true, decide_eq_true_eq]
    exact ⟨fun ⟨_, _, h, _⟩ => h, fun h => ⟨a.toNat % 8, by omega, h, rfl⟩⟩
  simp only [hslot, inRamLow, inApu4000, inApu4010, inRamHigh, Bool.and_eq_true, decide_eq_true_eq, ← BitVec.toNat_inj,
    BitVec.reduceToNat]
  omega

/-- There is a read at every address. -/
theorem exists_encode_eq_busReadWord (a : Addr) : ∃ i : Instr, i.wellFormed = true ∧ encode i = busReadWord a := by
  rcases addr_cases a with h | ⟨k, hk, h⟩ | h | h | (rfl | rfl | rfl | rfl) | h
  · exact ⟨.readRamLow a, h, rfl⟩
  · interval_cases k
    · exact ⟨.readControl a, h, rfl⟩
    · exact ⟨.readMask a, h, rfl⟩
    · exact ⟨.readStatus a, h, rfl⟩
    · exact ⟨.readOamAddr a, h, rfl⟩
    · exact ⟨.readOamData a, h, rfl⟩
    · exact ⟨.readScroll a, h, rfl⟩
    · exact ⟨.readVramAddr a, h, rfl⟩
    · exact ⟨.readVramData a, h, rfl⟩
  · exact ⟨.readApu4000 a, h, rfl⟩
  · exact ⟨.readApu4010 a, h, rfl⟩
  · exact ⟨.read4014, rfl, rfl⟩
  · exact ⟨.readApu4015, rfl, rfl⟩
  · exact ⟨.readJoy1, rfl, rfl⟩
  · exact ⟨.readJoy2, rfl, rfl⟩
  · exact ⟨.readRamHigh a, h, rfl⟩

/-- There is a write of every byte at every address. -/
theorem exists_encode_eq_busWriteWord (a : Addr) (d : Byte) :
    ∃ i : Instr, i.wellFormed = true ∧ encode i = busWriteWord a d := by
  rcases addr_cases a with h | ⟨k, hk, h⟩ | h | h | (rfl | rfl | rfl | rfl) | h
  · exact ⟨.writeRamLow a d, h, rfl⟩
  · interval_cases k
    · exact ⟨.writeControl a d, h, rfl⟩
    · exact ⟨.writeMask a d, h, rfl⟩
    · exact ⟨.writeStatus a d, h, rfl⟩
    · exact ⟨.writeOamAddr a d, h, rfl⟩
    · exact ⟨.writeOamData a d, h, rfl⟩
    · exact ⟨.writeScroll a d, h, rfl⟩
    · exact ⟨.writeVramAddr a d, h, rfl⟩
    · exact ⟨.writeVramData a d, h, rfl⟩
  · exact ⟨.writeApu4000 a d, h, rfl⟩
  · exact ⟨.writeApu4010 a d, h, rfl⟩
  · exact ⟨.writeOamDma d, rfl, rfl⟩
  · exact ⟨.writeApu4015 d, rfl, rfl⟩
  · exact ⟨.writeJoyStrobe d, rfl, rfl⟩
  · exact ⟨.writeApu4017 d, rfl, rfl⟩
  · exact ⟨.writeRamHigh a d, h, rfl⟩

/-- A word R99 does not refuse is that of an operation. -/
theorem exists_encode_eq {w : OpWord} (h : ¬ RefusedWord w) : ∃ i : Instr, i.wellFormed = true ∧ encode i = w := by
  rw [refusedWord_iff] at h
  have hk := (wordKind w).isLt
  obtain hkind | hkind | hkind | hkind :
    (wordKind w).toNat = 0 ∨ (wordKind w).toNat = 1 ∨ (wordKind w).toNat = 2 ∨ (wordKind w).toNat = 3 := by omega
  · have hdata : (wordData w).toNat = 0 := by omega
    rw [← busReadWord_wordAddr hkind hdata]
    exact exists_encode_eq_busReadWord _
  · rw [← busWriteWord_wordAddr hkind]
    exact exists_encode_eq_busWriteWord _ _
  · have hhost : ((wordAddr w).toNat = 0 ∧ (wordData w).toNat = 0) ∨
        ((wordAddr w).toNat = 0x100 ∧ (wordData w).toNat = 0) ∨ (wordAddr w).toNat / 2 = 0x100 := by omega
    rcases hhost with ⟨haddr, hdata⟩ | ⟨haddr, hdata⟩ | haddr
    · exact ⟨.init, rfl, BitVec.eq_of_toNat_eq (by rw [toNat_eq_fields w, hkind, haddr, hdata]; rfl)⟩
    · exact ⟨.composeFrame, rfl, BitVec.eq_of_toNat_eq (by rw [toNat_eq_fields w, hkind, haddr, hdata]; rfl)⟩
    · exact ⟨_, rfl, encode_sampleInput_wordPort hkind haddr⟩
  · exact absurd (.inl hkind) h

/-- Settles O3: a word that decodes is not refused, so it is some operation's word, and O2 says that it decodes to that
operation. -/
theorem encodeOfDecodeIsTheWord : Obligations.EncodeOfDecodeIsTheWord := by
  intro w i hdecode
  have hnot : ¬ RefusedWord w := fun h => by simp [decode_of_refusedWord h] at hdecode
  obtain ⟨j, hwf, rfl⟩ := exists_encode_eq hnot
  rw [decodeOfEncodeIsTheOperation j hwf] at hdecode
  obtain rfl : j = i := Except.ok.inj hdecode
  exact ⟨hwf, rfl⟩

theorem exists_decode_error_iff (w : OpWord) : (∃ e, decode w = .error e) ↔ RefusedWord w := by
  refine ⟨fun ⟨e, he⟩ => ?_, fun h => ⟨_, decode_of_refusedWord h⟩⟩
  by_contra h
  obtain ⟨i, hwf, rfl⟩ := exists_encode_eq h
  simp [decodeOfEncodeIsTheOperation i hwf] at he

/-- Settles O1: each word is in the table's range for its row, or fails every row. -/
theorem tableWordsDecode : Obligations.TableWordsDecode := by
  unfold Obligations.TableWordsDecode
  decide

namespace Machine

/-- A refused word takes a step that sets the mark (R99, log 7). -/
theorem step_of_decode_error {s : State} {w : OpWord} {rest : List OpWord} {e : DecodeError}
    (hpending : s.pending = w :: rest) (hdecode : decode w = .error e) :
    step s = .next { s with refused := true, result := none, pending := rest } := by
  simp only [step, hpending, runWord, hdecode]
  rfl

/-- Settles O4: the words of R99 are those no operation encodes to, and no operation clears the mark (O58). -/
theorem refusedWordsAndTheirMark : Obligations.RefusedWordsAndTheirMark :=
  ⟨exists_decode_error_iff, fun _ _ _ _ => step_of_decode_error, fun s t hstep => (marksAreSetOnceAndForAll s t hstep).1⟩

end Machine
end Sys2Proof
end

section
/-! The bus (spec/40_memory_bus.md, sections 1 to 3): the mapped address (R120) decides both the operation that a bus word decodes
to and the rule that `busRead` or `busWrite` runs, so that running the word is the bus operation; totality and the mirrors
follow from that. -/

namespace Sys2Proof

/-! ### From a mapped address to the addresses of a row -/

/-- With `inSlot_of_mapped`, the two ranges that R120 folds. -/
theorem inRamLow_of_mapped {a : Addr} (h : mapped a < 0x800) : inRamLow a = true := by
  rw [mapped, Machine.toNat_addrMap] at h
  simp only [inRamLow, decide_eq_true_eq]
  split_ifs at h <;> omega

/-- From 0x4000 on an address is its own mapped address. -/
theorem toNat_of_mapped {a : Addr} (h : 0x4000 ≤ mapped a) : a.toNat = mapped a := by
  rw [mapped, Machine.toNat_addrMap] at h ⊢
  split_ifs at h ⊢ <;> omega

theorem inApu4000_of_mapped {a : Addr} (h : 0x4000 ≤ mapped a) (h' : mapped a ≤ 0x400F) : inApu4000 a = true := by
  simp only [inApu4000, toNat_of_mapped h, Bool.and_eq_true, decide_eq_true_eq]
  omega

theorem inApu4010_of_mapped {a : Addr} (h : 0x4010 ≤ mapped a) (h' : mapped a ≤ 0x4013) : inApu4010 a = true := by
  simp only [inApu4010, toNat_of_mapped (le_trans (by decide) h), Bool.and_eq_true, decide_eq_true_eq]
  omega

theorem inRamHigh_of_mapped {a : Addr} (h : 0x4018 ≤ mapped a) : inRamHigh a = true := by
  simp only [inRamHigh, toNat_of_mapped (le_trans (by decide) h), decide_eq_true_eq]
  exact h

/-- The address of a row that covers one. -/
theorem eq_of_mapped {a b : Addr} (h : mapped a = b.toNat) (hb : 0x4000 ≤ b.toNat) : a = b :=
  BitVec.eq_of_toNat_eq ((toNat_of_mapped (h ▸ hb)).trans h)

namespace Machine

/-! ### A bus word runs the bus operation -/

/-- The word of an operation runs it: O2 says what it decodes to. -/
theorem runWord_encode {i : Instr} (hwf : i.wellFormed = true) (s : State) : runWord (encode i) s = exec i s := by
  simp only [runWord, decodeOfEncodeIsTheOperation i hwf]

/-- In each range of the mapped address, the row of the table and the rule of `busRead` are the same (R122). -/
theorem runWord_busReadWord (a : Addr) (s : State) : runWord (busReadWord a) s = answer (busRead a s) := by
  rw [busRead_mapped]
  rcases mapped_cases a with h | (h | h | h | h | h | h | h | h) | ⟨h, h'⟩ | ⟨h, h'⟩ | h | h | h | h | h <;>
    simp (disch := omega) only [if_pos, if_neg]
  · exact runWord_encode (i := .readRamLow a) (inRamLow_of_mapped h) s
  · exact runWord_encode (i := .readControl a) (inSlot_of_mapped (by decide) h) s
  · exact runWord_encode (i := .readMask a) (inSlot_of_mapped (by decide) h) s
  · exact runWord_encode (i := .readStatus a) (inSlot_of_mapped (by decide) h) s
  · exact runWord_encode (i := .readOamAddr a) (inSlot_of_mapped (by decide) h) s
  · exact runWord_encode (i := .readOamData a) (inSlot_of_mapped (by decide) h) s
  · exact runWord_encode (i := .readScroll a) (inSlot_of_mapped (by decide) h) s
  · exact runWord_encode (i := .readVramAddr a) (inSlot_of_mapped (by decide) h) s
  · exact runWord_encode (i := .readVramData a) (inSlot_of_mapped (by decide) h) s
  · exact runWord_encode (i := .readApu4000 a) (inApu4000_of_mapped h h') s
  · exact runWord_encode (i := .readApu4010 a) (inApu4010_of_mapped h h') s
  · rw [eq_of_mapped (b := 0x4014) h (by decide)]; exact runWord_encode (i := .read4014) rfl s
  · rw [eq_of_mapped (b := 0x4015) h (by decide)]; exact runWord_encode (i := .readApu4015) rfl s
  · rw [eq_of_mapped (b := 0x4016) h (by decide)]; exact runWord_encode (i := .readJoy1) rfl s
  · rw [eq_of_mapped (b := 0x4017) h (by decide)]; exact runWord_encode (i := .readJoy2) rfl s
  · exact runWord_encode (i := .readRamHigh a) (inRamHigh_of_mapped h) s

/-- In each range of the mapped address, the row of the table and the rule of `busWrite` are the same (R121). -/
theorem runWord_busWriteWord (a : Addr) (v : Byte) (s : State) :
    runWord (busWriteWord a v) s = complete (busWrite a v s) := by
  rw [busWrite_mapped]
  rcases mapped_cases a with h | (h | h | h | h | h | h | h | h) | ⟨h, h'⟩ | ⟨h, h'⟩ | h | h | h | h | h <;>
    simp (disch := omega) only [if_pos, if_neg]
  · exact runWord_encode (i := .writeRamLow a v) (inRamLow_of_mapped h) s
  · exact runWord_encode (i := .writeControl a v) (inSlot_of_mapped (by decide) h) s
  · exact runWord_encode (i := .writeMask a v) (inSlot_of_mapped (by decide) h) s
  · exact runWord_encode (i := .writeStatus a v) (inSlot_of_mapped (by decide) h) s
  · exact runWord_encode (i := .writeOamAddr a v) (inSlot_of_mapped (by decide) h) s
  · exact runWord_encode (i := .writeOamData a v) (inSlot_of_mapped (by decide) h) s
  · exact runWord_encode (i := .writeScroll a v) (inSlot_of_mapped (by decide) h) s
  · exact runWord_encode (i := .writeVramAddr a v) (inSlot_of_mapped (by decide) h) s
  · exact runWord_encode (i := .writeVramData a v) (inSlot_of_mapped (by decide) h) s
  · exact runWord_encode (i := .writeApu4000 a v) (inApu4000_of_mapped h h') s
  · exact runWord_encode (i := .writeApu4010 a v) (inApu4010_of_mapped h h') s
  · rw [eq_of_mapped (b := 0x4014) h (by decide)]; exact runWord_encode (i := .writeOamDma v) rfl s
  · rw [eq_of_mapped (b := 0x4015) h (by decide)]; exact runWord_encode (i := .writeApu4015 v) rfl s
  · rw [eq_of_mapped (b := 0x4016) h (by decide)]; exact runWord_encode (i := .writeJoyStrobe v) rfl s
  · rw [eq_of_mapped (b := 0x4017) h (by decide)]; exact runWord_encode (i := .writeApu4017 v) rfl s
  · exact runWord_encode (i := .writeRamHigh a v) (inRamHigh_of_mapped h) s

/-- Settles O7: the table and the dispatch functions choose by the same ranges. -/
theorem busWordsRunTheBusOperations : Obligations.BusWordsRunTheBusOperations := fun a v s =>
  ⟨runWord_busReadWord a s, runWord_busWriteWord a v s⟩

/-! ### The rule chosen, and totality -/

/-- Settles O5: in each range the word is the encoding of the row's operation (O2), and a `busWrite` completes (O7). -/
theorem busWriteRuleByMappedAddress : Obligations.BusWriteRuleByMappedAddress := by
  intro a v
  refine ⟨fun h => decodeOfEncodeIsTheOperation (.writeRamLow a v) (inRamLow_of_mapped h),
    fun h => decodeOfEncodeIsTheOperation (.writeControl a v) (inSlot_of_mapped (by decide) h),
    fun h => decodeOfEncodeIsTheOperation (.writeMask a v) (inSlot_of_mapped (by decide) h),
    fun h => decodeOfEncodeIsTheOperation (.writeStatus a v) (inSlot_of_mapped (by decide) h),
    fun h => decodeOfEncodeIsTheOperation (.writeOamAddr a v) (inSlot_of_mapped (by decide) h),
    fun h => decodeOfEncodeIsTheOperation (.writeOamData a v) (inSlot_of_mapped (by decide) h),
    fun h => decodeOfEncodeIsTheOperation (.writeScroll a v) (inSlot_of_mapped (by decide) h),
    fun h => decodeOfEncodeIsTheOperation (.writeVramAddr a v) (inSlot_of_mapped (by decide) h),
    fun h => decodeOfEncodeIsTheOperation (.writeVramData a v) (inSlot_of_mapped (by decide) h),
    fun h h' => decodeOfEncodeIsTheOperation (.writeApu4000 a v) (inApu4000_of_mapped h h'),
    fun h h' => decodeOfEncodeIsTheOperation (.writeApu4010 a v) (inApu4010_of_mapped h h'),
    fun h => ?_, fun h => ?_, fun h => ?_, fun h => ?_,
    fun h => decodeOfEncodeIsTheOperation (.writeRamHigh a v) (inRamHigh_of_mapped h),
    fun s => ⟨_, runWord_busWriteWord a v s, rfl⟩⟩
  · rw [eq_of_mapped (b := 0x4014) h (by decide)]; exact decodeOfEncodeIsTheOperation (.writeOamDma v) rfl
  · rw [eq_of_mapped (b := 0x4015) h (by decide)]; exact decodeOfEncodeIsTheOperation (.writeApu4015 v) rfl
  · rw [eq_of_mapped (b := 0x4016) h (by decide)]; exact decodeOfEncodeIsTheOperation (.writeJoyStrobe v) rfl
  · rw [eq_of_mapped (b := 0x4017) h (by decide)]; exact decodeOfEncodeIsTheOperation (.writeApu4017 v) rfl

/-- Settles O6: in each range the word is the encoding of the row's operation (O2), and a `busRead` answers (O7). -/
theorem busReadRuleByMappedAddress : Obligations.BusReadRuleByMappedAddress := by
  intro a
  refine ⟨fun h => decodeOfEncodeIsTheOperation (.readRamLow a) (inRamLow_of_mapped h),
    fun h => decodeOfEncodeIsTheOperation (.readControl a) (inSlot_of_mapped (by decide) h),
    fun h => decodeOfEncodeIsTheOperation (.readMask a) (inSlot_of_mapped (by decide) h),
    fun h => decodeOfEncodeIsTheOperation (.readStatus a) (inSlot_of_mapped (by decide) h),
    fun h => decodeOfEncodeIsTheOperation (.readOamAddr a) (inSlot_of_mapped (by decide) h),
    fun h => decodeOfEncodeIsTheOperation (.readOamData a) (inSlot_of_mapped (by decide) h),
    fun h => decodeOfEncodeIsTheOperation (.readScroll a) (inSlot_of_mapped (by decide) h),
    fun h => decodeOfEncodeIsTheOperation (.readVramAddr a) (inSlot_of_mapped (by decide) h),
    fun h => decodeOfEncodeIsTheOperation (.readVramData a) (inSlot_of_mapped (by decide) h),
    fun h h' => decodeOfEncodeIsTheOperation (.readApu4000 a) (inApu4000_of_mapped h h'),
    fun h h' => decodeOfEncodeIsTheOperation (.readApu4010 a) (inApu4010_of_mapped h h'),
    fun h => ?_, fun h => ?_, fun h => ?_, fun h => ?_,
    fun h => decodeOfEncodeIsTheOperation (.readRamHigh a) (inRamHigh_of_mapped h),
    fun s => ⟨_, _, runWord_busReadWord a s, rfl⟩⟩
  · rw [eq_of_mapped (b := 0x4014) h (by decide)]; exact decodeOfEncodeIsTheOperation .read4014 rfl
  · rw [eq_of_mapped (b := 0x4015) h (by decide)]; exact decodeOfEncodeIsTheOperation .readApu4015 rfl
  · rw [eq_of_mapped (b := 0x4016) h (by decide)]; exact decodeOfEncodeIsTheOperation .readJoy1 rfl
  · rw [eq_of_mapped (b := 0x4017) h (by decide)]; exact decodeOfEncodeIsTheOperation .readJoy2 rfl

/-- What a word of either kind does to the mark of R61: a refused word leaves it, and an operation sets it in one case. -/
theorem runWord_faulted {w : OpWord} {s t : State} (h : runWord w s = .next t) (hne : t.faulted ≠ s.faulted) :
    s.params.vramIndex = .fault ∧ 0x4000 ≤ s.vramAddr.toNat := by
  unfold runWord at h
  split at h
  · obtain ⟨u, r, rfl, heffect⟩ := exec_cases h
    rcases heffect.faulted with hf | ⟨-, hmark⟩
    · exact absurd hf hne
    · exact hmark
  · cases h
    exact absurd rfl hne

/-- Settles O10: a bus word completes (O7), with the mark as any word leaves it. -/
theorem busOperationsNeverFail : Obligations.BusOperationsNeverFail := fun a v s =>
  ⟨⟨_, _, runWord_busReadWord a s, rfl, runWord_faulted (runWord_busReadWord a s)⟩,
    ⟨_, runWord_busWriteWord a v s, runWord_faulted (runWord_busWriteWord a v s)⟩⟩

/-! ### Mirrors -/

theorem addrMap_addrMap (a : Addr) : addrMap (addrMap a) = addrMap a := by
  apply BitVec.eq_of_toNat_eq
  rw [toNat_addrMap (addrMap a), toNat_addrMap a]
  split_ifs <;> omega

/-- A bus read sees its address only as it is normalised. -/
theorem busRead_of_addrMap_eq {a b : Addr} (h : addrMap a = addrMap b) (s : State) : busRead a s = busRead b s := by
  simp only [busRead, ramRead, unimplementedRead, h]

/-- So does a bus write. -/
theorem busWrite_of_addrMap_eq {a b : Addr} (h : addrMap a = addrMap b) (v : Byte) (s : State) :
    busWrite a v s = busWrite b v s := by
  simp only [busWrite, ramWrite, unimplementedWrite, h]

theorem addrMap_eq_of_ramMirror {a b : Addr} (ha : a.toNat < 0x2000) (hb : b.toNat < 0x2000)
    (h : a.toNat % 0x800 = b.toNat % 0x800) : addrMap a = addrMap b :=
  BitVec.eq_of_toNat_eq (by rw [addrMap_of_ramLow ha, addrMap_of_ramLow hb, h])

theorem addrMap_eq_of_slotMirror {a b : Addr} (ha : 0x2000 ≤ a.toNat) (ha' : a.toNat < 0x4000) (hb : 0x2000 ≤ b.toNat)
    (hb' : b.toNat < 0x4000) (h : a.toNat % 8 = b.toNat % 8) : addrMap a = addrMap b := by
  have hslot : inSlot (a.toNat % 8) a = true ∧ inSlot (a.toNat % 8) b = true := by simp [inSlot, *]
  rw [addrMap_of_slot hslot.1, addrMap_of_slot hslot.2]

theorem busRead_of_ramLow {a : Addr} (h : a.toNat < 0x2000) (s : State) : busRead a s = (s, s.cpuMem.read (mapped a)) := by
  have hmapped : mapped a < 0x2000 := by rw [mapped, addrMap_of_ramLow h]; omega
  rw [busRead_mapped, if_pos hmapped]
  rfl

theorem busWrite_of_ramLow {a : Addr} (h : a.toNat < 0x2000) (v : Byte) (s : State) :
    busWrite a v s = s.setCpuMem (s.cpuMem.write (mapped a) v) := by
  have hmapped : mapped a < 0x2000 := by rw [mapped, addrMap_of_ramLow h]; omega
  rw [busWrite_mapped, if_pos hmapped]
  rfl

/-- A byte written to a RAM mirror is what a read of the same mapped address returns. -/
theorem busRead_busWrite_ramMirror {a a' : Addr} (ha : a.toNat < 0x2000) (ha' : a'.toNat < 0x2000)
    (h : addrMap a' = addrMap a) (v : Byte) (s : State) :
    (busRead a ((busWrite a' v s).setResult none)).2 = v := by
  rw [busRead_of_ramLow ha, busWrite_of_ramLow ha']
  simp [mapped, h, Memory.read_write]

/-- Settles O11: what R120 normalises to the same address, the bus does not tell apart. -/
theorem addressMirrors : Obligations.AddressMirrors := by
  refine ⟨fun a h => addrMap_of_ramLow h, fun a h h' => ?_, fun a h => addrMap_of_high h, addrMap_addrMap,
    fun a a' v s t ha hmod ha' hwrite => ?_, fun a a' v s ha1 ha2 hb1 hb2 hmod => ?_⟩
  · rw [mapped, toNat_addrMap, if_neg (by omega), if_pos h']
  · rw [runWord_busWriteWord, complete_eq] at hwrite
    obtain rfl := Host.Outcome.next.inj hwrite
    refine ⟨_, runWord_busReadWord a _, congrArg some ?_⟩
    exact busRead_busWrite_ramMirror ha ha' (addrMap_eq_of_ramMirror ha' ha hmod) v s
  · have h := addrMap_eq_of_slotMirror ha1 ha2 hb1 hb2 hmod
    rw [runWord_busReadWord, runWord_busReadWord, runWord_busWriteWord, runWord_busWriteWord, busRead_of_addrMap_eq h,
      busWrite_of_addrMap_eq h]
    exact ⟨rfl, rfl⟩

end Machine
end Sys2Proof
end

section
/-! The bus read rules (spec/40_memory_bus.md section 3), one equation of state each. -/

namespace Sys2Proof.Machine

/-! ### RAM and the ports that answer a byte -/

/-- A read of RAM (R150, R156). -/
theorem answer_ramRead (a : Addr) (s : State) :
    answer (ramRead a s) = .next { s with result := some (s.cpuMem.read (mapped a)) } := rfl

/-- Settles O14: the byte at the mapped address, which is the address modulo 0x800 below 0x2000 and itself from 0x4000. -/
theorem ramReadsReturnTheByte : Obligations.RamReadsReturnTheByte := by
  refine fun s a => ⟨fun h => ?_, fun h => ?_⟩
  · rw [← addrMap_of_ramLow h]
    exact answer_ramRead a s
  · have hmapped : mapped a = a.toNat := congrArg BitVec.toNat (addrMap_of_high (by omega))
    rw [← hmapped]
    exact answer_ramRead a s

/-- Settles O15: by the two values of `P_STATUS_SOURCE`. -/
theorem statusReadHasNoSideEffect : Obligations.StatusReadHasNoSideEffect := by
  refine fun s a => ⟨fun h => ?_, fun h => ?_⟩
  · have hread : statusRead s = (s, s.status) := by simp only [statusRead, h]
    exact congrArg answer hread
  · have hread : statusRead s = s.drawByte := by simp only [statusRead, h]
    exact congrArg answer hread

theorem vramIndex_of_past {mode : VramIndexing} {v : Addr} (hmode : mode = .fault) (hv : 0x4000 ≤ v.toNat) :
    vramIndex mode v = none := by
  subst hmode
  exact if_neg (by omega)

/-- An access inside VideoMemory, as R61 numbers it (R153). -/
theorem vramDataRead_of_inside {s : State} (h : s.params.vramIndex = .mod16K ∨ s.vramAddr.toNat < 0x4000) :
    vramDataRead s = (s, s.vram.read (s.vramAddr.toNat % 0x4000)) := by
  simp only [vramDataRead, vramIndex_some h, State.vramByte]

/-- Past its end under `Fault` (R61). -/
theorem vramDataRead_of_past {s : State} (h : s.params.vramIndex = .fault) (hv : 0x4000 ≤ s.vramAddr.toNat) :
    vramDataRead s = s.markFaulted.drawByte := by
  simp only [vramDataRead, vramIndex_of_past h hv]

/-- Settles O16 (`vramDataRead` is the model's function): inside the store the index is `vramAddr` modulo its size under both
settings. -/
theorem vramDataReadByIndexing : Obligations.VramDataRead := by
  refine fun s a => ⟨fun h => ?_, fun _ hv => ?_, fun h hv => ?_⟩
  · exact congrArg answer (vramDataRead_of_inside (.inl h))
  · rw [← Nat.mod_eq_of_lt hv]
    exact congrArg answer (vramDataRead_of_inside (.inr hv))
  · exact congrArg answer (vramDataRead_of_past h hv)

/-! ### Unimplemented registers -/

/-- The read policy of R158. -/
theorem answer_unimplementedRead (a : Addr) (s : State) : answer (unimplementedRead a s) =
    .next { s with diag := s.diag ++ [⟨.read, addrMap a⟩], result := some 0x00 } := rfl

/-- The read policy at a register slot, whose mapped address is that of its first mirror. -/
theorem answer_unimplementedRead_of_slot {k : Nat} {a : Addr} (h : inSlot k a = true) (s : State) :
    answer (unimplementedRead a s) =
      .next { s with diag := s.diag ++ [⟨.read, BitVec.ofNat 16 (0x2000 + k)⟩], result := some 0x00 } := by
  rw [answer_unimplementedRead, addrMap_of_slot h]

/-- The read policy where the address is its own mapped address. -/
theorem answer_unimplementedRead_of_high {a : Addr} (h : 0x4000 ≤ a.toNat) (s : State) :
    answer (unimplementedRead a s) =
      .next { s with diag := s.diag ++ [⟨.read, a⟩], result := some 0x00 } := by
  rw [answer_unimplementedRead, addrMap_of_high h]

theorem le_of_inApu4000 {a : Addr} (h : inApu4000 a = true) : 0x4000 ≤ a.toNat := by
  simp only [inApu4000, Bool.and_eq_true, decide_eq_true_eq] at h
  exact h.1

theorem le_of_inApu4010 {a : Addr} (h : inApu4010 a = true) : 0x4000 ≤ a.toNat := by
  simp only [inApu4010, Bool.and_eq_true, decide_eq_true_eq] at h
  omega

/-- Settles O12: R158 at the slot or the address of each register. -/
theorem unimplementedReadsAnswerZero : Obligations.UnimplementedReadsAnswerZero := fun s _ =>
  ⟨fun h => answer_unimplementedRead_of_slot h s, fun h => answer_unimplementedRead_of_slot h s,
    fun h => answer_unimplementedRead_of_slot h s, fun h => answer_unimplementedRead_of_slot h s,
    fun h => answer_unimplementedRead_of_slot h s, fun h => answer_unimplementedRead_of_slot h s,
    fun h => answer_unimplementedRead_of_high (le_of_inApu4000 h) s,
    fun h => answer_unimplementedRead_of_high (le_of_inApu4010 h) s,
    answer_unimplementedRead_of_high (by decide) s⟩

/-- Settles O13: by the two values of `P_READ_4014`, the policy of R158 or the byte of the store. -/
theorem readOfDmaPort : Obligations.ReadOfDmaPort := by
  refine fun s => ⟨fun h => ?_, fun h => ?_⟩
  · have hread : dmaPortRead s = unimplementedRead 0x4014 s := by simp only [dmaPortRead, h]
    exact (congrArg answer hread).trans (answer_unimplementedRead_of_high (by decide) s)
  · have hread : dmaPortRead s = (s, s.cpuByte 0x4014) := by simp only [dmaPortRead, h]
    exact congrArg answer hread

end Sys2Proof.Machine
end

section
/-! The bus write rules (spec/40_memory_bus.md section 2) but OAM DMA: what each writes, and that it writes nothing else. -/

namespace Sys2Proof.Machine

/-! ### One byte of a store -/

/-- Everything a RAM write does, at the mapped address (R130, R139). -/
theorem complete_ramWrite (a : Addr) (v : Byte) (s : State) :
    ∃ t, complete (ramWrite a v s) = .next t ∧ t.cpuMem.read (mapped a) = v ∧
      (∀ k, k ≠ mapped a → t.cpuMem.read k = s.cpuMem.read k) ∧
      { t with cpuMem := s.cpuMem } = { s with result := none } := by
  have hread (k : Nat) : (s.cpuMem.write (mapped a) v).read k = if k = mapped a then v else s.cpuMem.read k :=
    Memory.read_write _ _ _ _
  exact ⟨_, rfl, (hread _).trans (if_pos rfl), fun k hk => (hread k).trans (if_neg hk), rfl⟩

/-- Settles O17: the mapped address is the address modulo 0x800 below 0x2000 and itself from 0x4000. -/
theorem ramWritesStoreOneByte : Obligations.RamWritesStoreOneByte := by
  refine fun s a v => ⟨fun h => ?_, fun h => ?_⟩
  · rw [← addrMap_of_ramLow h]
    exact complete_ramWrite a v s
  · have hmapped : mapped a = a.toNat := congrArg BitVec.toNat (addrMap_of_high (by omega))
    rw [← hmapped]
    exact complete_ramWrite a v s

/-- A write inside VideoMemory, at the index R61 gives it (R136). -/
theorem vramDataWrite_of_inside {s : State} (h : s.params.vramIndex = .mod16K ∨ s.vramAddr.toNat < 0x4000) (v : Byte) :
    vramDataWrite v s = s.setVram (s.vram.write (s.vramAddr.toNat % 0x4000) v) := by
  simp only [vramDataWrite, vramIndex_some h, State.writeVramByte]

/-- Past its end under `Fault` (R61). -/
theorem vramDataWrite_of_past {s : State} (h : s.params.vramIndex = .fault) (hv : 0x4000 ≤ s.vramAddr.toNat) (v : Byte) :
    vramDataWrite v s = s.markFaulted := by
  simp only [vramDataWrite, vramIndex_of_past h hv]

/-- Settles O24: a write inside the store, and the mark alone past it. -/
theorem vramDataWriteStoresOneByte : Obligations.VramDataWriteStoresOneByte := by
  refine fun s a v => ⟨fun h => ?_, fun h hv => congrArg complete (vramDataWrite_of_past h hv v)⟩
  have hread (k : Nat) : (s.vram.write (s.vramAddr.toNat % 0x4000) v).read k =
      if k = s.vramAddr.toNat % 0x4000 then v else s.vram.read k := Memory.read_write _ _ _ _
  exact ⟨_, congrArg complete (vramDataWrite_of_inside h v), (hread _).trans (if_pos rfl),
    fun k hk => (hread k).trans (if_neg hk), rfl⟩

/-! ### Registers -/

/-- Settles O18: each is the field's own update. -/
theorem registerWritesStoreTheByte : Obligations.RegisterWritesStoreTheByte := fun _ _ _ => ⟨rfl, rfl, rfl⟩

/-- Settles O20: the port is a write of the byte at `oamAddr` and of `oamAddr` itself. -/
theorem oamDataWriteAndIncrement : Obligations.OamDataWriteAndIncrement := by
  intro s a v
  have hbyte (i : Nat) : (oamDataWrite v s).oamByte i = if i = s.oamAddr.toNat then v else s.oamByte i :=
    s.writeOamByte_oamByte s.oamAddr.toNat v i s.oamAddr.isLt
  refine ⟨(oamDataWrite v s).setResult none, rfl, (hbyte _).trans (if_pos rfl), fun i hi => (hbyte i).trans (if_neg hi),
    BitVec.toNat_add _ _, ?_⟩
  rw [oamDataWrite_eq]
  rfl

/-- Settles O22: by the latch, the byte that `latchVramAddr` sets and the one it keeps. -/
theorem vramAddrWriteByLatch : Obligations.VramAddrWriteByLatch := by
  refine fun s a v => ⟨fun h => ?_, fun h => ?_⟩
  · rw [← latchVramAddr_high]
    simp only [exec, execWriteVramAddr, vramAddrWrite, h]
    rfl
  · rw [← latchVramAddr_low]
    simp only [exec, execWriteVramAddr, vramAddrWrite, h]
    rfl

/-! ### Dropped writes -/

/-- The write policy of R141. -/
theorem complete_unimplementedWrite (a : Addr) (s : State) : complete (unimplementedWrite a s) =
    .next { s with diag := s.diag ++ [⟨.write, addrMap a⟩], result := none } := rfl

/-- The write policy at a register slot, whose mapped address is that of its first mirror. -/
theorem complete_unimplementedWrite_of_slot {k : Nat} {a : Addr} (h : inSlot k a = true) (s : State) :
    complete (unimplementedWrite a s) =
      .next { s with diag := s.diag ++ [⟨.write, BitVec.ofNat 16 (0x2000 + k)⟩], result := none } := by
  rw [complete_unimplementedWrite, addrMap_of_slot h]

/-- The write policy where the address is its own mapped address. -/
theorem complete_unimplementedWrite_of_high {a : Addr} (h : 0x4000 ≤ a.toNat) (s : State) :
    complete (unimplementedWrite a s) =
      .next { s with diag := s.diag ++ [⟨.write, a⟩], result := none } := by
  rw [complete_unimplementedWrite, addrMap_of_high h]

/-- Settles O19: R141 at the slot or the address of each register. -/
theorem droppedWritesOnlyDiagnose : Obligations.DroppedWritesOnlyDiagnose := fun s _ _ =>
  ⟨fun h => complete_unimplementedWrite_of_slot h s, fun h => complete_unimplementedWrite_of_slot h s,
    fun h => complete_unimplementedWrite_of_high (le_of_inApu4000 h) s,
    fun h => complete_unimplementedWrite_of_high (le_of_inApu4010 h) s,
    complete_unimplementedWrite_of_high (by decide) s, complete_unimplementedWrite_of_high (by decide) s⟩

/-! ### The strobe -/

/-- Where `OnLatchWrite` does not act, the strobe sets the latch alone (R138). -/
theorem strobeWrite_of_keep {v : Byte} {s : State} (h : s.params.strobeReset ≠ .onLatchWrite ∨ v.getLsbD 0 = false) :
    strobeWrite v s = s.setControllerLatch (v.getLsbD 0) := by
  have hcond : ¬ (s.params.strobeReset = .onLatchWrite ∧ v.getLsbD 0 = true) := by
    rintro ⟨hmode, hbit⟩
    rcases h with h | h
    · exact h hmode
    · exact Bool.false_ne_true (h.symm.trans hbit)
  rw [strobeWrite, strobeLatch_eq, if_neg hcond]

/-- Where it does, both masks are cleared as well (R147). -/
theorem strobeWrite_of_clear {v : Byte} {s : State} (h : s.params.strobeReset = .onLatchWrite) (hbit : v.getLsbD 0 = true) :
    strobeWrite v s = ((s.setControllerLatch true).setCurrentBit 0 0).setCurrentBit 1 0 := by
  rw [strobeWrite, strobeLatch_eq, if_pos ⟨h, hbit⟩, hbit]

/-- Settles O29: by whether `OnLatchWrite` acts. -/
theorem strobeWriteSetsTheLatch : Obligations.StrobeWriteSetsTheLatch := by
  refine fun s v => ⟨fun h => congrArg complete (strobeWrite_of_keep h), fun h hbit => ?_⟩
  refine ⟨_, congrArg complete (strobeWrite_of_clear h hbit), fun p => ?_, by simp⟩
  fin_cases p
  · simp
  · simp

end Sys2Proof.Machine
end

section
/-! OAM DMA (spec/40_memory_bus.md R137, R145, R146): a page whose source bytes are read without an effect is copied as it
stands, which is every page under `Raw` and every page of RAM under `Mapped`. -/

namespace Sys2Proof.Machine

/-- A DMA from a page of plain bytes. -/
theorem exec_writeOamDma_of_plainPage {page : Byte} {s : State}
    (h : ∀ i, i < 256 → dmaSource s.params.dmaSource (dmaAddr page i) s = (s, s.cpuByte (dmaAddr page i))) :
    ∃ t, exec (.writeOamDma page) s = .next t ∧
      (∀ i, i < 256 → t.oamByte i = s.cpuMem.read (page.toNat * 256 + i)) ∧
      { t with oam := s.oam } = { s with result := none } := by
  have hreads (n : Nat) (hn : n ≤ 256) : dmaReads s.params.dmaSource page s n = s :=
    dmaReads_of_pure fun i hi => congrArg Prod.fst (h i (by omega))
  obtain ⟨hrest, hbytes⟩ := oamDma_spec page s
  rw [hreads 256 le_rfl] at hrest
  refine ⟨_, exec_writeOamDma page s, fun i hi => (hbytes i hi).trans ?_, congrArg (State.setResult · none) hrest⟩
  rw [hreads i (by omega), h i hi, State.cpuByte, toNat_dmaAddr page hi]

/-- Settles O26: under `Raw` every page is one of plain bytes. -/
theorem oamDmaRawCopiesThePage : Obligations.OamDmaRawCopiesThePage := by
  intro s page hmode
  refine exec_writeOamDma_of_plainPage fun i _ => ?_
  rw [hmode]
  rfl

/-- Settles O27: `oamDma_spec` with the bus read as the source. -/
theorem oamDmaMappedReadsTheBus : Obligations.OamDmaMappedReadsTheBus := by
  intro s page hmode
  obtain ⟨hrest, hbytes⟩ := oamDma_spec page s
  rw [hmode] at hrest hbytes
  have hoam : (dmaReads .mapped page s 256).setOam s.oam = dmaReads .mapped page s 256 := by
    rw [← (dmaReads_kept .mapped page s 256).oam, State.setOam_self]
  exact ⟨_, exec_writeOamDma page s, hbytes, congrArg (State.setResult · none) (hrest.trans hoam)⟩

/-- A bus read of plain RAM that no mirror folds. -/
theorem busRead_of_plain {a : Addr} (h : a.toNat < 0x800 ∨ 0x4018 ≤ a.toNat) (s : State) :
    busRead a s = (s, s.cpuByte a) := by
  have hmap : addrMap a = a := BitVec.eq_of_toNat_eq (by rw [toNat_addrMap]; split_ifs <;> omega)
  rw [busRead_mapped, mapped, hmap]
  rcases h with h | h
  · rw [if_pos (by omega), ramRead, hmap]
  · simp (disch := omega) only [if_neg, ramRead, hmap]

/-- Settles O28: the pages of both ranges lie where a bus read is the byte of the store. -/
theorem oamDmaSourcesAgree : Obligations.OamDmaSourcesAgree := by
  intro s page hpage
  refine exec_writeOamDma_of_plainPage fun i hi => ?_
  have haddr := toNat_dmaAddr page hi
  cases s.params.dmaSource with
  | raw => rfl
  | mapped => exact busRead_of_plain (by omega) s

end Sys2Proof.Machine
end

section
/-! The palette (spec/41_palette.md): what a composition shows where no tile has an opaque pixel (R173, R207), and which bytes of
VideoMemory it reads (R67, R174, R175). -/

namespace Sys2Proof.Machine

/-! ### The tiles a composition shows -/

/-- R188: both pattern tables lie below 0x2000. -/
theorem tileAddr_le {bank t : Nat} (hbank : bank ≤ 1) (ht : t < 256) : tileAddr bank t + 16 ≤ 0x2000 := by
  unfold tileAddr
  omega

/-- A record shows at a pixel the same row and column of the same half under every view, or nothing under any. -/
theorem recordPixel_cases (s : State) (r : SpriteRecord) (x y : Nat) :
    (∀ v, recordPixel v s r x y = .transparent) ∨
    ∃ h ∈ spriteHalves s r, ∃ i j, i < 8 ∧ ∀ v, recordPixel v s r x y = halfTile v r h i j := by
  unfold recordPixel
  by_cases hx : r.x ≤ x ∧ x < r.x + 8
  · simp only [if_pos hx]
    cases hfind : (spriteHalves s r).find? fun h => decide (h.top ≤ y) && decide (y < h.top + 8) with
    | none => exact .inl fun _ => rfl
    | some h =>
      have hy := List.find?_some hfind
      simp only [Bool.and_eq_true, decide_eq_true_eq] at hy
      exact .inr ⟨h, List.mem_of_find?_eq_some hfind, y - h.top, x - r.x, by omega, fun _ => rfl⟩
  · exact .inl fun _ => if_neg hx

/-! ### Empty pattern tables -/

section
variable {v : VideoView} (hempty : ∀ k, k < 0x2000 → v.byte k = 0)
include hempty

theorem decodeTile_of_empty {addr : Nat} (haddr : addr + 16 ≤ 0x2000) (flipH flipV : Bool) (base c : Nat) {r : Nat}
    (hr : r < 8) : decodeTile v addr flipH flipV base r c = .transparent :=
  decodeTile_of_zero flipH flipV base c hr fun _ hk => hempty _ (by omega)

theorem renderNametable_of_empty {bank : Nat} (hbank : bank ≤ 1) (ta ox oy : Nat) (f : Canvas) :
    renderNametable v bank ta ox oy f = f := by
  funext x y
  by_cases h : ox ≤ x ∧ x < ox + 256 ∧ oy ≤ y ∧ y < oy + 240
  · rw [renderNametable_inside _ _ _ _ _ _ h, nametableTile,
      decodeTile_of_empty hempty (tileAddr_le hbank (BitVec.isLt _)) _ _ _ _ (Nat.mod_lt _ (by decide)),
      Pixel.over_transparent]
  · exact renderNametable_outside _ _ _ _ _ _ h

/-- R207: the cleared surface is what shows. -/
theorem compositeCanvas_of_empty {bank : Nat} (hbank : bank ≤ 1) : compositeCanvas v bank = clearedComposite v := by
  simp only [compositeCanvas, renderNametable_of_empty hempty hbank]

theorem recordPixel_of_empty (s : State) (n x y : Nat) : recordPixel v s (spriteRecord s n) x y = .transparent := by
  rcases recordPixel_cases s (spriteRecord s n) x y with h | ⟨h, hmem, i, j, hi, heq⟩
  · exact h v
  · obtain ⟨bank, t, hbank, ht, haddr⟩ := spriteHalves_addr s n hmem
    rw [heq]
    exact decodeTile_of_empty hempty (haddr ▸ tileAddr_le hbank ht) _ _ _ _ hi

theorem drawSprite_of_empty (s : State) (f : Canvas) (n : Nat) : drawSprite v s f n = f := by
  funext x y
  rw [drawSprite_apply, recordPixel_of_empty hempty, Pixel.over_transparent]

theorem drawSprites_of_empty (s : State) (f : Canvas) : drawSprites v s f = f :=
  List.foldl_fixed' (drawSprite_of_empty hempty s f) _

theorem frameCanvas_of_empty (s : State) {x y : Nat} (hx : x < 256) (hy : y < 240)
    (hblit : x + scrollXEff s < 512 ∨ y + scrollYEff s < 480) : frameCanvas v s x y = universal v := by
  rw [frameCanvas, drawSprites_of_empty hempty, backgroundFrame_apply _ _ hx hy,
    compositeCanvas_of_empty hempty (bgBank_le s)]
  simp only [clearedComposite, ite_self]
  split_ifs
  · rfl
  · rfl
  · omega

end

/-- Settles O47: no tile shows, so a blit copies the cleared surface and no sprite covers it. -/
theorem emptyPatternsShowTheUniversalColour : Obligations.EmptyPatternsShowTheUniversalColour := by
  intro s t x y hexec hx hy hempty hblit j hj
  rw [exec_composeFrame] at hexec
  cases hexec
  calc pixelAt (composeFrame s).frame x y
      = some (frameCanvas s.video s x y) := pixelAt_frame s hx hy
    _ = some (universal s.video) := congrArg some (frameCanvas_of_empty (v := s.video) hempty s hx hy hblit)
    _ = some (master s.params j) := congrArg (fun i => some (master s.params i)) (Fin.ext hj.symm)

/-! ### The bytes a composition reads -/

/-- The addresses of VideoMemory that some rendering rule reads: the pattern tables and nametables (R67), the universal colour
(R173), and the palette RAM entries a nonzero pixel index can name (R174, R175). -/
def RenderRead (k : Nat) : Prop := k < 0x3000 ∨ k = 0x3F00 ∨ (0x3F00 ≤ k ∧ k < 0x3F20 ∧ k % 4 ≠ 0)

/-- Two views that no rendering rule tells apart. -/
structure VideoView.Agree (v w : VideoView) : Prop where
  params : v.params = w.params
  byte : ∀ k, RenderRead k → v.byte k = w.byte k

/-- R204: a background palette base is the first entry of a palette. -/
theorem attrPaletteBase_mod_four (v : VideoView) (ta tileX tileY : Nat) : attrPaletteBase v ta tileX tileY % 4 = 0 := by
  rw [attrPaletteBase, Nat.shiftLeft_eq]
  omega

/-- R234: so is a sprite's. -/
theorem SpriteRecord.paletteBase_mod_four (r : SpriteRecord) : r.paletteBase % 4 = 0 := by
  rw [SpriteRecord.paletteBase, Nat.or_mod_two_pow (n := 2), Nat.shiftLeft_eq, Nat.mul_mod_left]
  rfl

namespace VideoView.Agree

variable {v w : VideoView} (hvw : v.Agree w)
include hvw

theorem byte_of_lt {k : Nat} (hk : k < 0x3000) : v.byte k = w.byte k := hvw.byte k (.inl hk)

theorem universal_eq : universal v = universal w := resolve_congr hvw.params (hvw.byte _ (.inr (.inl rfl)))

/-- R174: the entry a nonzero pixel index names is never the first of a palette. -/
theorem decodedPixel_eq {p base : Nat} (hp : p < 4) (hbase : base % 4 = 0) :
    decodedPixel v p base = decodedPixel w p base := by
  unfold decodedPixel
  split
  · rfl
  · have hindex : (base ||| p) % 4 = p := by
      rw [Nat.or_mod_two_pow (n := 2), hbase, Nat.zero_or, Nat.mod_eq_of_lt hp]
    rw [resolve_congr hvw.params (hvw.byte _ (.inr (.inr (by omega))))]

theorem pix_eq {addr j : Nat} (haddr : addr + 16 ≤ 0x2000) (hj : j < 8) (c : Nat) (flipH : Bool) :
    pix v addr j c flipH = pix w addr j c flipH := by
  unfold pix planeBit
  rw [hvw.params, hvw.byte_of_lt (by omega), hvw.byte_of_lt (by omega)]

theorem decodeTile_eq {addr base r : Nat} (haddr : addr + 16 ≤ 0x2000) (hbase : base % 4 = 0) (hr : r < 8)
    (flipH flipV : Bool) (c : Nat) : decodeTile v addr flipH flipV base r c = decodeTile w addr flipH flipV base r c := by
  rw [decodeTile, decodeTile, hvw.pix_eq haddr (srcRow_lt hr flipV), hvw.decodedPixel_eq (pix_lt _ _ _ _ _) hbase]

theorem attrPaletteBase_eq {ta tileX tileY : Nat} (hta : ta + 1024 ≤ 0x3000) (hX : tileX < 32) (hY : tileY < 30) :
    attrPaletteBase v ta tileX tileY = attrPaletteBase w ta tileX tileY := by
  rw [attrPaletteBase, attrByte, hvw.byte_of_lt (by omega)]
  rfl

theorem nametableTile_eq {bank ta tileX tileY r : Nat} (hbank : bank ≤ 1) (hta : ta + 1024 ≤ 0x3000) (hX : tileX < 32)
    (hY : tileY < 30) (hr : r < 8) (c : Nat) :
    nametableTile v bank ta tileX tileY r c = nametableTile w bank ta tileX tileY r c := by
  rw [nametableTile, nametableTile, hvw.byte_of_lt (by omega), hvw.attrPaletteBase_eq hta hX hY,
    hvw.decodeTile_eq (tileAddr_le hbank (BitVec.isLt _)) (attrPaletteBase_mod_four _ _ _ _) hr]

theorem renderNametable_eq {bank ta : Nat} (hbank : bank ≤ 1) (hta : ta + 1024 ≤ 0x3000) (ox oy : Nat) (f : Canvas) :
    renderNametable v bank ta ox oy f = renderNametable w bank ta ox oy f := by
  funext x y
  by_cases h : ox ≤ x ∧ x < ox + 256 ∧ oy ≤ y ∧ y < oy + 240
  · rw [renderNametable_inside _ _ _ _ _ _ h, renderNametable_inside _ _ _ _ _ _ h,
      hvw.nametableTile_eq hbank hta (by omega) (by omega) (by omega)]
  · rw [renderNametable_outside _ _ _ _ _ _ h, renderNametable_outside _ _ _ _ _ _ h]

theorem compositeCanvas_eq {bank : Nat} (hbank : bank ≤ 1) : compositeCanvas v bank = compositeCanvas w bank := by
  have hcleared : clearedComposite v = clearedComposite w := funext fun _ => funext fun _ => hvw.universal_eq
  simp (disch := decide) only [compositeCanvas, hcleared, hvw.renderNametable_eq hbank]

theorem recordPixel_eq (s : State) (n x y : Nat) :
    recordPixel v s (spriteRecord s n) x y = recordPixel w s (spriteRecord s n) x y := by
  rcases recordPixel_cases s (spriteRecord s n) x y with h | ⟨h, hmem, i, j, hi, heq⟩
  · rw [h v, h w]
  · obtain ⟨bank, t, hbank, ht, haddr⟩ := spriteHalves_addr s n hmem
    rw [heq v, heq w]
    exact hvw.decodeTile_eq (haddr ▸ tileAddr_le hbank ht) (SpriteRecord.paletteBase_mod_four _) hi _ _ _

theorem drawSprite_eq (s : State) : drawSprite v s = drawSprite w s := by
  funext f n x y
  rw [drawSprite_apply, drawSprite_apply, hvw.recordPixel_eq]

theorem frameCanvas_eq (s : State) : frameCanvas v s = frameCanvas w s := by
  simp only [frameCanvas, drawSprites, hvw.drawSprite_eq, hvw.compositeCanvas_eq (bgBank_le s)]

end VideoView.Agree

/-- Settles O55: the two views agree on every byte that rendering reads. -/
theorem unreadVideoBytesChangeNothing : Obligations.UnreadVideoBytesChangeNothing := by
  intro s m hbytes
  have hvw : VideoView.Agree { s with vram := m }.video s.video := ⟨rfl, hbytes⟩
  exact ⟨congrArg (Canvas.store _ _) (hvw.compositeCanvas_eq (bgBank_le s)),
    congrArg (Canvas.store _ _) (hvw.frameCanvas_eq s)⟩

end Sys2Proof.Machine
end

section
/-! The tile decoder (spec/42_tile_decoder.md): which plane bit a column shows and what two plane bits give, the flip laws (R190),
the bytes a decode reads (R187, R191), and the decode of a pixel in closed form. -/

namespace Sys2Proof.Machine

/-! ### Rows, columns and flips -/

/-- R184: a vertical flip shows the mirrored source row, whatever the rest of the decode does. -/
theorem decodeTile_flipV (v : VideoView) (addr : Nat) (flipH : Bool) (base r c : Nat) :
    decodeTile v addr flipH true base r c = decodeTile v addr flipH false base (7 - r) c := rfl

theorem srcBit_flipH (order : ColumnOrder) {c : Nat} (hc : c < 8) : srcBit order c true = srcBit order (7 - c) false := by
  cases order
  case msbLeft => exact (Nat.sub_sub_self (Nat.le_of_lt_succ hc)).symm
  case lsbLeft => rfl

theorem decodeTile_flipH (v : VideoView) (addr : Nat) (flipV : Bool) (base r : Nat) {c : Nat} (hc : c < 8) :
    decodeTile v addr true flipV base r c = decodeTile v addr false flipV base r (7 - c) := by
  unfold decodeTile pix
  rw [srcBit_flipH _ hc]

/-- Settles O39: the horizontal flip mirrors the plane bit under both column orders, the vertical one the source row. -/
theorem tileFlipsMirror : Obligations.TileFlipsMirror := fun v addr base r _ _ hc =>
  ⟨decodeTile_flipH v addr false base r hc, decodeTile_flipV v addr false base r _,
    (decodeTile_flipH v addr true base r hc).trans (decodeTile_flipV v addr false base r _)⟩

/-! ### The bytes a decode reads -/

section
variable {v w : VideoView} (hparams : v.params = w.params)
include hparams

/-- R183: a pixel index is read from the two plane bytes of its row. -/
theorem pix_congr {addr j : Nat} (hj : j < 8) (htile : ∀ k, k < 16 → v.byte (addr + k) = w.byte (addr + k)) (c : Nat)
    (flipH : Bool) : pix v addr j c flipH = pix w addr j c flipH := by
  unfold pix planeBit
  rw [hparams, htile j (by omega), Nat.add_assoc, htile (j + 8) (by omega)]

/-- R172: a colour is resolved from a byte of palette RAM. -/
theorem decodedPixel_congr (hpalette : ∀ k, k < 32 → v.byte (0x3F00 + k) = w.byte (0x3F00 + k)) (p base : Nat) :
    decodedPixel v p base = decodedPixel w p base := by
  unfold decodedPixel
  rw [resolve_congr hparams (hpalette _ (Nat.mod_lt _ (by decide)))]

end

/-- Settles O40: the views agree on the pixel index, and on the colour it shows. -/
theorem tileReadsOnlyItsBytes : Obligations.TileReadsOnlyItsBytes := by
  intro v w addr base r c flipH flipV hr _ hparams htile hpalette
  rw [decodeTile, decodeTile, pix_congr hparams (srcRow_lt hr flipV) htile, decodedPixel_congr hparams hpalette]

/-! ### The pixel index from the plane bits -/

theorem planeBit_eq (v : VideoView) (addr k : Nat) : planeBit v addr k = ((v.byte addr).getLsbD k).toNat := by
  rw [planeBit, Nat.and_one_is_mod, Nat.shiftRight_eq_div_pow]
  exact (Nat.toNat_testBit _ _).symm

theorem mux_lowFirst (a b : Bool) : mux .lowFirst a.toNat b.toNat = a.toNat + 2 * b.toNat := by
  cases a <;> cases b <;> rfl

theorem mux_highFirst (a b : Bool) : mux .highFirst a.toNat b.toNat = b.toNat + 2 * a.toNat := by
  cases a <;> cases b <;> rfl

theorem mux_eq_zero_iff (order : PlaneOrder) (a b : Bool) : mux order a.toNat b.toNat = 0 ↔ a = false ∧ b = false := by
  cases order
  case lowFirst => rw [mux_lowFirst]; cases a <;> cases b <;> decide
  case highFirst => rw [mux_highFirst]; cases a <;> cases b <;> decide

theorem pix_eq_mux (v : VideoView) (addr j c : Nat) (flipH : Bool) :
    pix v addr j c flipH = mux v.params.planeOrder
      ((v.byte (addr + j)).getLsbD (srcBit v.params.columnOrder c flipH)).toNat
      ((v.byte (addr + j + 8)).getLsbD (srcBit v.params.columnOrder c flipH)).toNat := by
  rw [pix, planeBit_eq, planeBit_eq]

/-- R181 to R183: the closed form reads the plane bit `srcBit` names, and weighs the two bits as `mux` does. -/
theorem indexClosed_eq_mux (p : Params) (planeA planeB : Byte) (flipH : Bool) (c : Nat) :
    indexClosed p planeA planeB flipH c = mux p.planeOrder (planeA.getLsbD (srcBit p.columnOrder c flipH)).toNat
      (planeB.getLsbD (srcBit p.columnOrder c flipH)).toNat := by
  unfold indexClosed
  cases p.planeOrder
  case lowFirst => rw [mux_lowFirst]; cases p.columnOrder <;> cases flipH <;> rfl
  case highFirst => rw [mux_highFirst]; cases p.columnOrder <;> cases flipH <;> rfl

theorem pix_eq_indexClosed (v : VideoView) (addr j c : Nat) (flipH : Bool) :
    pix v addr j c flipH = indexClosed v.params (v.byte (addr + j)) (v.byte (addr + j + 8)) flipH c := by
  rw [pix_eq_mux, indexClosed_eq_mux]

/-! ### The colour of a pixel index -/

theorem decodedPixel_zero (v : VideoView) (base : Nat) : decodedPixel v 0 base = .transparent := rfl

theorem decodedPixel_ne_transparent_iff (v : VideoView) (p base : Nat) : decodedPixel v p base ≠ .transparent ↔ p ≠ 0 := by
  unfold decodedPixel
  split <;> simp [*]

/-- R186: under the base of a palette the index counts from its first entry. -/
theorem decodedPixel_of_pos (v : VideoView) {p base : Nat} (hpos : 0 < p) (hp : p < 4) (hbase : base % 4 = 0) :
    decodedPixel v p base = .solid (resolve v (base + p)) := by
  have hor : base ||| p = base + p := by
    have h := Nat.two_pow_add_eq_or_of_lt (i := 2) hp (base / 4)
    rw [show 2 ^ 2 * (base / 4) = base by omega] at h
    exact h.symm
  rw [decodedPixel, if_neg hpos.ne', hor]

/-- R172: an index inside palette RAM needs no mirroring. -/
theorem resolve_of_lt (v : VideoView) {k : Nat} (hk : k < 32) :
    resolve v k = master v.params ⟨(v.byte (0x3F00 + k)).toNat % 64, Nat.mod_lt _ (by decide)⟩ := by
  simp only [resolve, Nat.mod_eq_of_lt hk]

/-! ### The decode of a pixel -/

/-- The closed form is about the pixel index of the source row. -/
theorem tileClosed_eq (v : VideoView) (addr : Nat) (flipH flipV : Bool) (base r c : Nat) :
    tileClosed v addr flipH flipV base r c =
      if pix v addr (srcRow r flipV) c flipH = 0 then .transparent
      else .solid (master v.params
        ⟨(v.byte (0x3F00 + base + pix v addr (srcRow r flipV) c flipH)).toNat % 64, Nat.mod_lt _ (by decide)⟩) := by
  simp only [pix_eq_indexClosed]
  rfl

theorem decodeTile_eq_tileClosed (v : VideoView) (addr : Nat) (flipH flipV : Bool) {base : Nat} (r c : Nat)
    (hbase : base % 4 = 0) (hlt : base < 32) :
    decodeTile v addr flipH flipV base r c = tileClosed v addr flipH flipV base r c := by
  have hpix := pix_lt v addr (srcRow r flipV) c flipH
  rw [decodeTile, tileClosed_eq]
  split
  next hzero => rw [hzero, decodedPixel_zero]
  next hne =>
    rw [decodedPixel_of_pos v (Nat.pos_of_ne_zero hne) hpix hbase, resolve_of_lt v (by omega)]
    simp only [Nat.add_assoc]

/-! ### Rows of 0x00, 0xFF and one-bit bytes -/

theorem getLsbD_allOnes {k : Nat} (hk : k < 8) : (0xFF : Byte).getLsbD k = true := by
  rw [show (0xFF : Byte) = BitVec.allOnes 8 from rfl, BitVec.getLsbD_allOnes, decide_eq_true hk]

theorem getLsbD_oneBit (k : Fin 8) (i : Nat) : (BitVec.twoPow 8 k).getLsbD i = true ↔ i = k := by
  rw [BitVec.getLsbD_twoPow]
  simp [k.isLt, eq_comm]

/-- R182: the one column that shows plane bit k. -/
theorem srcBit_msbLeft_eq_iff {c : Nat} (hc : c < 8) (k : Fin 8) (flipH : Bool) :
    srcBit .msbLeft c flipH = k ↔ c = if flipH then k.val else 7 - k.val := by
  cases flipH
  case false => simp only [srcBit, Bool.false_eq_true, if_false]; omega
  case true => rfl

theorem srcBit_lsbLeft_eq_iff {c : Nat} (hc : c < 8) (k : Fin 8) (flipH : Bool) :
    srcBit .lsbLeft c flipH = k ↔ c = if flipH then 7 - k.val else k.val := by
  cases flipH
  case false => rfl
  case true => simp only [srcBit, if_true]; omega

section
variable {v : VideoView} {addr r : Nat} {flipV : Bool} {planeA planeB : Byte}
  (hA : v.byte (addr + srcRow r flipV) = planeA) (hB : v.byte (addr + srcRow r flipV + 8) = planeB)
include hA hB

theorem decodeTile_of_planes (flipH : Bool) (base c : Nat) :
    decodeTile v addr flipH flipV base r c = decodedPixel v (mux v.params.planeOrder
      (planeA.getLsbD (srcBit v.params.columnOrder c flipH)).toNat
      (planeB.getLsbD (srcBit v.params.columnOrder c flipH)).toNat) base := by
  rw [decodeTile, pix_eq_mux, hA, hB]

/-- A row whose planes have the same bit everywhere shows one pixel in every column. -/
theorem decodeTile_of_constantPlanes {a b : Bool} (ha : ∀ k, k < 8 → planeA.getLsbD k = a)
    (hb : ∀ k, k < 8 → planeB.getLsbD k = b) (flipH : Bool) (base : Nat) {c : Nat} (hc : c < 8) :
    decodeTile v addr flipH flipV base r c = decodedPixel v (mux v.params.planeOrder a.toNat b.toNat) base := by
  have hk := srcBit_lt v.params.columnOrder hc flipH
  rw [decodeTile_of_planes hA hB, ha _ hk, hb _ hk]

end

/-- With plane B empty a row is opaque where plane A has its bits, whatever the plane order. -/
theorem decodeTile_oneBit_ne_transparent_iff {v : VideoView} {addr r : Nat} {flipV : Bool} {k : Fin 8}
    (hA : v.byte (addr + srcRow r flipV) = BitVec.twoPow 8 k) (hB : v.byte (addr + srcRow r flipV + 8) = 0)
    (flipH : Bool) (base c : Nat) :
    decodeTile v addr flipH flipV base r c ≠ .transparent ↔ srcBit v.params.columnOrder c flipH = k := by
  have hplaneB : (0 : Byte).getLsbD (srcBit v.params.columnOrder c flipH) = false := BitVec.getLsbD_zero
  rw [decodeTile_of_planes hA hB, hplaneB, decodedPixel_ne_transparent_iff, ne_eq, mux_eq_zero_iff,
    and_iff_left rfl, Bool.not_eq_false, getLsbD_oneBit]

/-- Settles O41: the closed form, and each corner from the plane bits that the column shows. -/
theorem tileRowCorners : Obligations.TileRowCorners := by
  intro v addr r c flipH flipV sub half _ hc
  have hbase : (half.val * 16 + sub.val * 4) % 4 = 0 := by omega
  have hlt : half.val * 16 + sub.val * 4 < 32 := by omega
  generalize half.val * 16 + sub.val * 4 = base at hbase hlt ⊢
  have hzeros : ∀ k, k < 8 → (0 : Byte).getLsbD k = false := fun _ _ => BitVec.getLsbD_zero
  have hones : ∀ k, k < 8 → (0xFF : Byte).getLsbD k = true := fun _ => getLsbD_allOnes
  refine ⟨decodeTile_eq_tileClosed v addr flipH flipV r c hbase hlt, fun hA hB => ?_, fun hA hB => ?_, fun hA hB => ?_,
    fun hA hB => ?_, fun k hA hB => ?_⟩
  · rw [decodeTile_of_constantPlanes hA hB hzeros hzeros flipH base hc, (mux_eq_zero_iff _ _ _).2 ⟨rfl, rfl⟩,
      decodedPixel_zero]
  · have hmux : mux v.params.planeOrder true.toNat true.toNat = 3 := by cases v.params.planeOrder <;> rfl
    rw [decodeTile_of_constantPlanes hA hB hones hones flipH base hc, hmux]
    exact decodedPixel_of_pos v (by decide) (by decide) hbase
  · rw [decodeTile_of_constantPlanes hA hB hones hzeros flipH base hc]
    constructor <;> intro horder <;> rw [horder]
    · exact decodedPixel_of_pos v (p := 1) (by decide) (by decide) hbase
    · exact decodedPixel_of_pos v (p := 2) (by decide) (by decide) hbase
  · rw [decodeTile_of_constantPlanes hA hB hzeros hones flipH base hc]
    constructor <;> intro horder <;> rw [horder]
    · exact decodedPixel_of_pos v (p := 2) (by decide) (by decide) hbase
    · exact decodedPixel_of_pos v (p := 1) (by decide) (by decide) hbase
  · rw [decodeTile_oneBit_ne_transparent_iff hA hB]
    constructor <;> intro horder <;> rw [horder]
    · exact srcBit_msbLeft_eq_iff hc k flipH
    · exact srcBit_lsbLeft_eq_iff hc k flipH

end Sys2Proof.Machine
end

section
/-! The background (spec/43_background.md): the tile walk and the closed form of the composite surface (R202 to R209), the
sub-palettes of a table (R204, R219), the viewport (R210 to R218), and what a composition reads (R216). -/

namespace Sys2Proof.Machine

theorem eq_of_exec_composeFrame {s t : State} (hexec : exec .composeFrame s = .next t) :
    t = (composeFrame s).setResult none := by
  rw [exec_composeFrame] at hexec
  cases hexec
  rfl

/-! ### Attribute quadrants -/

/-- R204: a tile's palette base is four times the 2-bit field of its attribute byte that its quadrant selects. -/
theorem attrPaletteBase_eq_field (v : VideoView) (ta tileX tileY : Nat) : attrPaletteBase v ta tileX tileY =
    4 * ((attrByte v ta tileX tileY).toNat / 4 ^ (tileX / 2 % 2 + 2 * (tileY / 2 % 2)) % 4) := by
  rw [attrPaletteBase, Nat.shiftLeft_eq, Nat.and_two_pow_sub_one_eq_mod _ 2, Nat.shiftRight_eq_div_pow, Nat.pow_mul,
    Nat.mul_comm]

/-- Settles O44: the attribute cell and the quadrant of a tile are the quotients of its coordinates. -/
theorem attributeQuadrants : Obligations.AttributeQuadrants := by
  intro v ta attribX attribY h w i j _ _ _
  rw [attrPaletteBase_eq_field, attrByte,
    show (4 * attribX + 2 * h.val + i.val) / 4 = attribX by omega,
    show (4 * attribY + 2 * w.val + j.val) / 4 = attribY by omega,
    show (4 * attribX + 2 * h.val + i.val) / 2 % 2 = h by omega,
    show (4 * attribY + 2 * w.val + j.val) / 2 % 2 = w by omega]

/-! ### The tile walk -/

/-- The number of the tile cell that covers a pixel of a table drawn at an origin (R202). -/
def cellIndex (ox oy x y : Nat) : Nat := 32 * ((y - oy) / 8) + (x - ox) / 8

theorem renderNametable_congr {v : VideoView} {bank ta ox oy : Nat} {f g : Canvas} {x y : Nat} (h : f x y = g x y) :
    renderNametable v bank ta ox oy f x y = renderNametable v bank ta ox oy g x y := by
  rw [renderNametable, renderNametable, h]

section
variable (v : VideoView) (bank ta : Nat) {ox oy : Nat} (hox : ox + 256 ≤ 512) (hoy : oy + 240 ≤ 480)
include hox hoy

/-- R205: at an origin whose table fits the surface, placing tile i draws the pixels of cell i and no other. -/
theorem placeTile_apply (f : Canvas) {i : Nat} (hi : i < 960) (x y : Nat) : placeTile v bank ta ox oy f i x y =
    if cellIndex ox oy x y = i then renderNametable v bank ta ox oy f x y else f x y := by
  have hleft : (i % 32 * 8 + ox) % 512 = i % 32 * 8 + ox := Nat.mod_eq_of_lt (by omega)
  have htop : (i / 32 * 8 + oy) % 480 = i / 32 * 8 + oy := Nat.mod_eq_of_lt (by omega)
  rw [placeTile, Canvas.putTile_eq_drawTile, Canvas.drawTile, hleft, htop, cellIndex]
  by_cases hin : ox ≤ x ∧ x < ox + 256 ∧ oy ≤ y ∧ y < oy + 240
  · rw [renderNametable_inside _ _ _ _ _ _ hin]
    by_cases hcell : 32 * ((y - oy) / 8) + (x - ox) / 8 = i
    · have hX : i % 32 = (x - ox) / 8 := by omega
      have hY : i / 32 = (y - oy) / 8 := by omega
      rw [if_pos (by omega), if_pos hcell, hX, hY, show x - ((x - ox) / 8 * 8 + ox) = (x - ox) % 8 by omega,
        show y - ((y - oy) / 8 * 8 + oy) = (y - oy) % 8 by omega]
    · rw [if_neg (by omega), if_neg hcell]
  · rw [renderNametable_outside _ _ _ _ _ _ hin, ite_self, if_neg (by omega)]

/-- The first n tiles of the walk draw the cells below n. -/
theorem foldl_placeTile (f : Canvas) (x y : Nat) {n : Nat} (hn : n ≤ 960) :
    (List.range n).foldl (placeTile v bank ta ox oy) f x y =
      if cellIndex ox oy x y < n then renderNametable v bank ta ox oy f x y else f x y := by
  induction n with
  | zero => rfl
  | succ n ih =>
    rw [List.range_succ, List.foldl_append, List.foldl_cons, List.foldl_nil, placeTile_apply v bank ta hox hoy _ hn]
    replace ih := ih (by omega)
    rcases Nat.lt_trichotomy (cellIndex ox oy x y) n with hlt | heq | hgt
    · rw [if_neg hlt.ne, ih, if_pos hlt, if_pos (by omega)]
    · rw [if_neg heq.not_lt] at ih
      rw [if_pos heq, if_pos (by omega), renderNametable_congr ih]
    · rw [if_neg hgt.ne', ih, if_neg hgt.not_gt, if_neg (by omega)]

/-- R202, R205: the walk over the 960 cells draws the table's region. -/
theorem walkNametable_eq_renderNametable (f : Canvas) :
    walkNametable v bank ta ox oy f = renderNametable v bank ta ox oy f := by
  funext x y
  rw [walkNametable, foldl_placeTile v bank ta hox hoy f x y le_rfl]
  by_cases hin : ox ≤ x ∧ x < ox + 256 ∧ oy ≤ y ∧ y < oy + 240
  · exact if_pos (by unfold cellIndex; omega)
  · rw [renderNametable_outside _ _ _ _ _ _ hin, ite_self]

end

theorem compositeWalk_eq_compositeCanvas (v : VideoView) (bank : Nat) : compositeWalk v bank = compositeCanvas v bank := by
  simp (disch := decide) only [compositeWalk, compositeCanvas, walkNametable_eq_renderNametable]

/-- Settles O43: each of the four walks draws its nametable. -/
theorem compositeIsTheTileWalk : Obligations.CompositeIsTheTileWalk := by
  intro s t x y hexec hx hy
  obtain rfl := eq_of_exec_composeFrame hexec
  rw [compositeWalk_eq_compositeCanvas]
  exact pixelAt_composite s hx hy

/-! ### The composite surface in closed form -/

/-- R209: the pixel that the nametable of a quadrant shows there. -/
theorem renderNametable_of_quadrant (v : VideoView) (bank ta : Nat) {ox oy x y : Nat} (f : Canvas)
    (hox : ox = 256 * (x / 256)) (hoy : oy = 240 * (y / 240)) : renderNametable v bank ta ox oy f x y =
      (nametableTile v bank ta (x % 256 / 8) (y % 240 / 8) (y % 240 % 8) (x % 256 % 8)).over (f x y) := by
  rw [renderNametable_inside _ _ _ _ _ _ (by omega), show x - ox = x % 256 by omega, show y - oy = y % 240 by omega]

/-- R209: at each pixel one of the four nametables draws, over the universal colour. -/
theorem compositeCanvas_apply (v : VideoView) (bank : Nat) {x y : Nat} (hx : x < 512) (hy : y < 480) :
    compositeCanvas v bank x y =
      (nametableTile v bank (0x2000 + 0x400 * (x / 256 + 2 * (y / 240))) (x % 256 / 8) (y % 240 / 8) (y % 240 % 8)
        (x % 256 % 8)).over (universal v) := by
  have hquadrant : (x / 256 = 0 ∨ x / 256 = 1) ∧ (y / 240 = 0 ∨ y / 240 = 1) := by omega
  rcases hquadrant with ⟨hi | hi, hj | hj⟩ <;> rw [hi, hj] <;>
    simp (disch := omega) only [compositeCanvas, clearedComposite, renderNametable_outside, renderNametable_of_quadrant]

/-- R201: the bank is the one its setting names. -/
theorem bgBank_eq_bgBankClosed (s : State) : bgBank s = bgBankClosed s := by
  unfold bgBank bgBankClosed
  cases s.params.bgBank with
  | controlBit => exact controlBit_eq s _
  | fixed0 => rfl
  | fixed1 => rfl

theorem compositeCanvas_eq_compositeClosed (s : State) {x y : Nat} (hx : x < 512) (hy : y < 480) :
    compositeCanvas s.video (bgBank s) x y = compositeClosed s x y := by
  rw [compositeCanvas_apply _ _ hx hy, bgBank_eq_bgBankClosed, nametableTile, ← Nat.add_assoc]
  rfl

/-- Settles O42: the surface holds the composed canvas, which is the closed form at every pixel. -/
theorem compositeClosedForm : Obligations.CompositeClosedForm := by
  intro s t x y hexec hx hy
  obtain rfl := eq_of_exec_composeFrame hexec
  rw [← compositeCanvas_eq_compositeClosed s hx hy]
  exact pixelAt_composite s hx hy

/-! ### The viewport -/

/-- R210: the effective scroll, its nametable select bit read off `control`. -/
theorem scrollXEff_eq (s : State) : scrollXEff s = s.scrollX.toNat + 256 * controlField s s.params.ctrlNtxBit :=
  congrArg (s.scrollX.toNat + 256 * ·) (controlBit_eq s _)

theorem scrollYEff_eq (s : State) : scrollYEff s = s.scrollY.toNat + 240 * controlField s s.params.ctrlNtyBit :=
  congrArg (s.scrollY.toNat + 240 * ·) (controlBit_eq s _)

/-- R230: the sprite pass lays the records' pixels over one another at each position by itself. -/
theorem drawSprites_apply (v : VideoView) (s : State) (f : Canvas) (x y : Nat) : drawSprites v s f x y =
    (List.range 64).foldl (fun c n => (recordPixel v s (spriteRecord s n) x y).over c) (f x y) :=
  (List.foldl_hom (fun g : Canvas => g x y) fun g n => (drawSprite_apply v s g n x y).symm).symm

theorem drawSprites_of_transparent {v : VideoView} {s : State} (f : Canvas) {x y : Nat}
    (hclear : ∀ n, n < 64 → recordPixel v s (spriteRecord s n) x y = .transparent) : drawSprites v s f x y = f x y := by
  rw [drawSprites_apply]
  refine List.foldlRecOn (motive := (· = f x y)) _ _ rfl fun c hc n hn => ?_
  rw [hclear n (List.mem_range.mp hn), Pixel.over_transparent, hc]

section
variable {s : State} {x y : Nat} (hx : x < 256) (hy : y < 240)
  (hclear : ∀ n, n < 64 → recordPixel s.video s (spriteRecord s n) x y = .transparent)
include hx hy hclear

/-- R211: what the main blit copies is what the frame shows. -/
theorem pixelAt_frame_of_mainBlit (hsx : x + scrollXEff s < 512) (hsy : y + scrollYEff s < 480) :
    pixelAt (composeFrame s).frame x y = pixelAt (composeFrame s).composite (x + scrollXEff s) (y + scrollYEff s) := by
  rw [pixelAt_frame s hx hy, pixelAt_composite s hsx hsy, frameCanvas, drawSprites_of_transparent _ hclear,
    backgroundFrame_apply _ _ hx hy, if_pos hsx, if_pos hsy]

/-- R212: so is what the vertical seam blit copies. -/
theorem pixelAt_frame_of_verticalSeam (hsx : x + scrollXEff s < 512) (hsy : 480 ≤ y + scrollYEff s) :
    pixelAt (composeFrame s).frame x y =
      pixelAt (composeFrame s).composite (x + scrollXEff s) (y + scrollYEff s - 480) := by
  have := scrollYEff_lt s
  rw [pixelAt_frame s hx hy, pixelAt_composite s hsx (by omega), frameCanvas, drawSprites_of_transparent _ hclear,
    backgroundFrame_apply _ _ hx hy, if_pos hsx, if_neg hsy.not_gt]

/-- R213: and what the horizontal seam blit copies. -/
theorem pixelAt_frame_of_horizontalSeam (hsx : 512 ≤ x + scrollXEff s) (hsy : y + scrollYEff s < 480) :
    pixelAt (composeFrame s).frame x y =
      pixelAt (composeFrame s).composite (x + scrollXEff s - 512) (y + scrollYEff s) := by
  have := scrollXEff_lt s
  rw [pixelAt_frame s hx hy, pixelAt_composite s (by omega) hsy, frameCanvas, drawSprites_of_transparent _ hclear,
    backgroundFrame_apply _ _ hx hy, if_neg hsx.not_gt, if_pos hsy]

end

/-- Settles O45: one lemma for each blit. -/
theorem viewportWrapsOverOneEdge : Obligations.ViewportWrapsOverOneEdge := by
  refine ⟨fun s => ⟨scrollXEff_eq s, scrollYEff_eq s⟩, fun s t x y hexec hx hy hclear => ?_⟩
  obtain rfl := eq_of_exec_composeFrame hexec
  exact ⟨pixelAt_frame_of_mainBlit hx hy hclear, pixelAt_frame_of_verticalSeam hx hy hclear,
    pixelAt_frame_of_horizontalSeam hx hy hclear⟩

/-- Settles O46: without a scroll the span crosses no edge, and the main blit writes the whole frame. -/
theorem unscrolledFrameIsOneQuadrant : Obligations.UnscrolledFrameIsOneQuadrant := by
  intro s t x y hexec hscrollX hscrollY hx hy hclear
  obtain rfl := eq_of_exec_composeFrame hexec
  have hsx : scrollXEff s = 256 * (s.control.getLsbD s.params.ctrlNtxBit).toNat := by
    rw [scrollXEff_eq, hscrollX]
    exact Nat.zero_add _
  have hsy : scrollYEff s = 240 * (s.control.getLsbD s.params.ctrlNtyBit).toNat := by
    rw [scrollYEff_eq, hscrollY]
    exact Nat.zero_add _
  have hntx := Bool.toNat_le (s.control.getLsbD s.params.ctrlNtxBit)
  have hnty := Bool.toNat_le (s.control.getLsbD s.params.ctrlNtyBit)
  rw [← hsx, ← hsy]
  exact pixelAt_frame_of_mainBlit hx hy hclear (by omega) (by omega)

/-! ### What a composition reads -/

/-- The state a composition reads is the same in both states (R216). -/
structure SameVideoState (s s' : State) : Prop where
  vramByte : ∀ k, k < 0x4000 → s.vramByte k = s'.vramByte k
  oam : s.oam = s'.oam
  control : s.control = s'.control
  scrollX : s.scrollX = s'.scrollX
  scrollY : s.scrollY = s'.scrollY
  params : s.params = s'.params

namespace SameVideoState

variable {s s' : State} (hsame : SameVideoState s s')
include hsame

/-- R67: no rendering rule reads past VideoMemory. -/
theorem agree : VideoView.Agree s.video s'.video where
  params := hsame.params
  byte k hread := hsame.vramByte k (by unfold RenderRead at hread; omega)

theorem controlBit_eq (k : Fin 8) : controlBit s k = controlBit s' k := by
  rw [controlBit, controlBit, hsame.control]

theorem bgBank_eq : bgBank s = bgBank s' := by
  rw [bgBank, bgBank, hsame.params, hsame.controlBit_eq]

theorem scrollXEff_eq : scrollXEff s = scrollXEff s' := by
  rw [scrollXEff, scrollXEff, hsame.scrollX, hsame.params, hsame.controlBit_eq]

theorem scrollYEff_eq : scrollYEff s = scrollYEff s' := by
  rw [scrollYEff, scrollYEff, hsame.scrollY, hsame.params, hsame.controlBit_eq]

theorem compositeCanvas_eq : compositeCanvas s.video (bgBank s) = compositeCanvas s'.video (bgBank s') := by
  rw [hsame.bgBank_eq, hsame.agree.compositeCanvas_eq (bgBank_le s')]

theorem spriteRecord_eq (n : Nat) : spriteRecord s n = spriteRecord s' n := by
  simp only [spriteRecord, State.oamByte, hsame.oam]

theorem spritesTall_eq : spritesTall s = spritesTall s' := by
  rw [spritesTall, spritesTall, hsame.params, hsame.controlBit_eq]

theorem spriteBank_eq : spriteBank s = spriteBank s' := by
  rw [spriteBank, spriteBank, hsame.params, hsame.controlBit_eq]

theorem spriteHalves_eq (r : SpriteRecord) : spriteHalves s r = spriteHalves s' r := by
  rw [spriteHalves, spriteHalves, hsame.spritesTall_eq, hsame.spriteBank_eq]

theorem recordPixel_eq (n x y : Nat) :
    recordPixel s.video s (spriteRecord s n) x y = recordPixel s'.video s' (spriteRecord s' n) x y := by
  rw [hsame.agree.recordPixel_eq, hsame.spriteRecord_eq, recordPixel, hsame.spriteHalves_eq]
  rfl

/-- A frame pixel is the same where a blit writes it, or where what the blits draw over is the same too. -/
theorem frameCanvas_apply_eq {x y : Nat} (hx : x < 256) (hy : y < 240)
    (hunder : x + scrollXEff s < 512 ∨ y + scrollYEff s < 480 ∨ s.frame = s'.frame ∧ s.draws = s'.draws) :
    frameCanvas s.video s x y = frameCanvas s'.video s' x y := by
  simp only [frameCanvas, drawSprites_apply, hsame.recordPixel_eq]
  rw [backgroundFrame_apply _ _ hx hy, backgroundFrame_apply _ _ hx hy, hsame.compositeCanvas_eq,
    ← hsame.scrollXEff_eq, ← hsame.scrollYEff_eq]
  rcases hunder with hsx | hsy | ⟨hframe, hdraws⟩
  · rw [if_pos hsx, if_pos hsx]
  · simp only [if_pos hsy]
  · rw [hframe, hdraws]

end SameVideoState

/-- Settles O54: both canvases are made of what the two states share, but for the corner no blit writes. -/
theorem compositionReadsOnlyVideoState : Obligations.CompositionReadsOnlyVideoState := by
  intro s s' t t' hvram hoam hcontrol hscrollX hscrollY hparams hexec hexec'
  have hsame : SameVideoState s s' := ⟨hvram, hoam, hcontrol, hscrollX, hscrollY, hparams⟩
  obtain rfl := eq_of_exec_composeFrame hexec
  obtain rfl := eq_of_exec_composeFrame hexec'
  refine ⟨congrArg (Canvas.store _ _) hsame.compositeCanvas_eq, fun x y hx hy hblit => ?_, fun hframe hdraws => ?_⟩
  · calc pixelAt (composeFrame s).frame x y
        = some (frameCanvas s.video s x y) := pixelAt_frame s hx hy
      _ = some (frameCanvas s'.video s' x y) :=
          congrArg some (hsame.frameCanvas_apply_eq hx hy (hblit.imp_right .inl))
      _ = pixelAt (composeFrame s').frame x y := (pixelAt_frame s' hx hy).symm
  · exact Canvas.store_congr fun x y hx hy => hsame.frameCanvas_apply_eq hx hy (.inr (.inr ⟨hframe, hdraws⟩))

end Sys2Proof.Machine
end

section
/-! The sprites (spec/44_sprites.md): what a record shows at a pixel in each mode (R232 to R237), which record shows in a frame
(R230, R242), the sprite pass against the pixel loop of R241, and the attribute bits that nothing reads (R239). -/

namespace Sys2Proof.Machine

/-! ### What a record shows at a pixel -/

/-- R233, R236: the tile that the top half (0) or the bottom half (1) of an 8x16 sprite shows. -/
def SpriteRecord.tallTile (r : SpriteRecord) (half : Nat) : Nat :=
  (r.tile &&& 0xFE) + if r.flipV then 1 - half else half

theorem spriteHalves_of_tall {s : State} (htall : spritesTall s = true) (r : SpriteRecord) :
    spriteHalves s r =
      [⟨tileAddr (r.tile &&& 1) (r.tallTile 0), r.y⟩, ⟨tileAddr (r.tile &&& 1) (r.tallTile 1), r.y + 8⟩] := by
  rw [spriteHalves, if_pos htall]
  unfold SpriteRecord.tallTile
  cases r.flipV <;> rfl

theorem spriteHalves_of_short {s : State} (hshort : spritesTall s = false) (r : SpriteRecord) :
    spriteHalves s r = [⟨tileAddr (spriteBank s) r.tile, r.y⟩] := by
  rw [spriteHalves, if_neg (by simp [hshort])]

/-- R232: in 8x8 mode a record shows its tile in the bank of `control`. -/
theorem recordPixel_of_short {s : State} (hshort : spritesTall s = false) (v : VideoView) (r : SpriteRecord) (x y : Nat) :
    recordPixel v s r x y =
      if r.x ≤ x ∧ x < r.x + 8 ∧ r.y ≤ y ∧ y < r.y + 8 then
        decodeTile v (tileAddr (spriteBank s) r.tile) r.flipH r.flipV r.paletteBase ((y - r.y) % 8)
          (x - r.x)
      else .transparent := by
  rw [recordPixel, spriteHalves_of_short hshort, find_half_cons, List.find?_nil]
  by_cases hx : r.x ≤ x ∧ x < r.x + 8
  · by_cases hy : r.y ≤ y ∧ y < r.y + 8
    · rw [if_pos hx, if_pos hy, if_pos (by omega), show (y - r.y) % 8 = y - r.y by omega]
      rfl
    · rw [if_pos hx, if_neg hy, if_neg (by omega)]
  · rw [if_neg hx, if_neg (by omega)]

/-- R233: in 8x16 mode it shows the two tiles of its pair, in the bank of bit 0 of its tile byte. -/
theorem recordPixel_of_tall {s : State} (htall : spritesTall s = true) (v : VideoView) (r : SpriteRecord) (x y : Nat) :
    recordPixel v s r x y =
      if r.x ≤ x ∧ x < r.x + 8 ∧ r.y ≤ y ∧ y < r.y + 16 then
        decodeTile v (tileAddr (r.tile &&& 1) (r.tallTile ((y - r.y) / 8))) r.flipH r.flipV r.paletteBase ((y - r.y) % 8)
          (x - r.x)
      else .transparent := by
  rw [recordPixel, spriteHalves_of_tall htall, find_half_cons, find_half_cons, List.find?_nil]
  by_cases hx : r.x ≤ x ∧ x < r.x + 8
  · rw [if_pos hx]
    by_cases htop : r.y ≤ y ∧ y < r.y + 8
    · rw [if_pos htop, if_pos (by omega), show (y - r.y) / 8 = 0 by omega, show (y - r.y) % 8 = y - r.y by omega]
      rfl
    · by_cases hbottom : r.y + 8 ≤ y ∧ y < r.y + 8 + 8
      · rw [if_neg htop, if_pos hbottom, if_pos (by omega), show (y - r.y) / 8 = 1 by omega,
          show (y - r.y) % 8 = y - (r.y + 8) by omega]
        rfl
      · rw [if_neg htop, if_neg hbottom, if_neg (by omega)]
  · rw [if_neg hx, if_neg (by omega)]

/-- R237: nothing shows above a record's Y. -/
theorem recordPixel_of_lt_top (v : VideoView) (s : State) (r : SpriteRecord) (x : Nat) {y : Nat} (hy : y < r.y) :
    recordPixel v s r x y = .transparent := by
  cases htall : spritesTall s with
  | false => rw [recordPixel_of_short htall, if_neg (by omega)]
  | true => rw [recordPixel_of_tall htall, if_neg (by omega)]

/-- Settles O52: the rows of the frame lie above such a sprite. -/
theorem spritesBelowTheFrameAreClipped : Obligations.SpritesBelowTheFrameAreClipped := by
  intro v s n x y f hbelow hy
  rw [drawSprite_apply, recordPixel_of_lt_top v s _ x (by omega), Pixel.over_transparent]

/-- Settles O51: the flip exchanges the two tiles (R236) and mirrors the rows of each (R235). -/
theorem tallSpriteFlipIsAMirror : Obligations.TallSpriteFlipIsAMirror := by
  rintro v s r _ x d htall hunflipped rfl hd
  have hflipV : SpriteRecord.flipV { r with attr := r.attr ||| 0x80 } = true := by simp [SpriteRecord.flipV]
  have hflipH : SpriteRecord.flipH { r with attr := r.attr ||| 0x80 } = r.flipH := by simp [SpriteRecord.flipH]
  have hbase : SpriteRecord.paletteBase { r with attr := r.attr ||| 0x80 } = r.paletteBase := by
    simp [SpriteRecord.paletteBase, Nat.and_or_distrib_right]
  have htile : SpriteRecord.tallTile { r with attr := r.attr ||| 0x80 } ((15 - d) / 8) = r.tallTile (d / 8) := by
    rw [SpriteRecord.tallTile, SpriteRecord.tallTile, hflipV, hunflipped, if_pos rfl, if_neg Bool.false_ne_true,
      show 1 - (15 - d) / 8 = d / 8 by omega]
  rw [recordPixel_of_tall htall, recordPixel_of_tall htall, hflipV, hflipH, hbase, hunflipped]
  simp only [Nat.add_sub_cancel_left]
  rw [htile, decodeTile_flipV, show 7 - (15 - d) % 8 = d % 8 by omega]
  exact ite_cond_congr (by simp only [eq_iff_iff]; omega)

/-! ### The closed form -/

theorem spritesTall_eq_control (s : State) : spritesTall s = s.control.getLsbD s.params.ctrlSprSizeBit := by
  rw [spritesTall, controlBit_eq]
  cases s.control.getLsbD s.params.ctrlSprSizeBit <;> rfl

theorem spriteBank_eq_controlField (s : State) : spriteBank s = controlField s s.params.ctrlSprBankBit := controlBit_eq s _

/-- R234: the sprite palettes are the last four of palette RAM. -/
theorem SpriteRecord.paletteBase_eq (r : SpriteRecord) : r.paletteBase = 16 + 4 * (r.attr.toNat % 4) := by
  rw [paletteBase, Nat.and_two_pow_sub_one_eq_mod _ 2, Nat.shiftLeft_eq, Nat.mul_comm]
  exact (Nat.two_pow_add_eq_or_of_lt (i := 4) (by omega) 1).symm

/-- R233: the first tile of the pair is the tile byte with bit 0 cleared. -/
theorem and_0xFE_eq {t : Nat} (ht : t < 256) : t &&& 0xFE = t - t % 2 := by
  have hhigh : (t &&& 0xFE) / 2 = t / 2 % 128 := by
    rw [Nat.and_div_two_pow (n := 1), Nat.and_two_pow_sub_one_eq_mod _ 7]
  have hlow : (t &&& 0xFE) % 2 = 0 := by rw [Nat.and_mod_two_pow (n := 1), Nat.and_zero]
  omega

theorem recordPixel_eq_recordClosed (s : State) (n x y : Nat) :
    recordPixel s.video s (spriteRecord s n) x y = recordClosed s n x y := by
  unfold recordClosed
  rw [← spritesTall_eq_control, ← spriteBank_eq_controlField]
  cases htall : spritesTall s with
  | false =>
    rw [recordPixel_of_short htall, SpriteRecord.paletteBase_eq]
    rfl
  | true =>
    rw [recordPixel_of_tall htall, SpriteRecord.paletteBase_eq, SpriteRecord.tallTile, and_0xFE_eq (BitVec.isLt _),
      Nat.and_one_is_mod]
    rfl

/-! ### The record that shows -/

/-- R242: of pixels laid over one another the last opaque one shows. -/
theorem foldl_over_of_last {p : Nat → Pixel} {n N : Nat} {c : Colour} (hn : n < N) (hsolid : p n = .solid c)
    (hclear : ∀ m, n < m → m < N → p m = .transparent) (under : Colour) :
    (List.range N).foldl (fun c m => (p m).over c) under = c := by
  induction N with
  | zero => exact absurd hn (Nat.not_lt_zero n)
  | succ N ih =>
    rw [List.range_succ, List.foldl_append, List.foldl_cons, List.foldl_nil]
    rcases Nat.lt_succ_iff_lt_or_eq.mp hn with hlt | rfl
    · rw [hclear N hlt (Nat.lt_succ_self N), Pixel.over_transparent]
      exact ih hlt fun m hm hmN => hclear m hm (Nat.lt_succ_of_lt hmN)
    · rw [hsolid, Pixel.over_solid]

/-- R211 to R215: the background pass leaves the closed form. -/
theorem backgroundFrame_eq_backgroundClosed (s : State) {x y : Nat} (hx : x < 256) (hy : y < 240) :
    backgroundFrame (unstitchedFrame (surfaceCanvas s.frame) s.draws) (compositeCanvas s.video (bgBank s)) (scrollXEff s)
      (scrollYEff s) x y = backgroundClosed s x y := by
  have hscrollX := scrollXEff_lt s
  have hscrollY := scrollYEff_lt s
  rw [backgroundFrame_apply _ _ hx hy, backgroundClosed]
  split_ifs
  · exact compositeCanvas_eq_compositeClosed s (by omega) (by omega)
  · exact compositeCanvas_eq_compositeClosed s (by omega) (by omega)
  · exact compositeCanvas_eq_compositeClosed s (by omega) (by omega)
  · rfl

/-- Settles O49: the closed form of a record by the two modes, and in the sprite pass the last opaque record covers the others. -/
theorem highestOpaqueSpriteShows : Obligations.HighestOpaqueSpriteShows := by
  refine ⟨fun s n x y _ => recordPixel_eq_recordClosed s n x y, fun s t x y hexec hx hy => ?_⟩
  obtain rfl := eq_of_exec_composeFrame hexec
  rw [State.setResult_frame, pixelAt_frame s hx hy, frameCanvas]
  refine ⟨fun hclear => ?_, fun n c hn hsolid hclear => ?_⟩
  · rw [drawSprites_of_transparent _ hclear, backgroundFrame_eq_backgroundClosed s hx hy]
  · rw [drawSprites_apply]
    exact congrArg some (foldl_over_of_last hn hsolid hclear _)

/-! ### The pixel loop -/

section
variable {f g : Canvas} {x y : Nat} (hx : x < 256) (hy : y < 240) (hfg : f x y = g x y)
include hx hy hfg

/-- R237: inside the frame clipping is not seen. -/
theorem framePut_congr (px py : Nat) (p : Pixel) : framePut f px py p x y = g.put px py p x y := by
  by_cases hinside : px < 256 ∧ py < 240
  · rw [framePut, if_pos hinside, Canvas.put, Canvas.put, hfg]
  · rw [framePut, if_neg hinside, Canvas.put, if_neg (by omega), hfg]

/-- R241: the loop over the 64 pixels of a half draws its tile. -/
theorem foldl_framePut_congr (t : Nat → Nat → Pixel) (left top : Nat) :
    (List.range 8).foldl (fun h r => (List.range 8).foldl (fun h c => framePut h (left + c) (top + r) (t r c)) h) f x y =
      g.drawTile t left top x y := by
  rw [← Canvas.putTile_eq_drawTile]
  exact List.foldl_rel (r := fun h k : Canvas => h x y = k x y) hfg fun _ _ _ _ hrow =>
    List.foldl_rel (r := fun h k : Canvas => h x y = k x y) hrow fun _ _ _ _ hpixel => framePut_congr hx hy hpixel _ _ _

theorem putSprite_congr (v : VideoView) (s : State) (n : Nat) : putSprite v s f n x y = drawSprite v s g n x y :=
  List.foldl_rel (r := fun h k : Canvas => h x y = k x y) hfg fun _ _ _ _ hhalf => foldl_framePut_congr hx hy hhalf _ _ _

end

/-- Settles O50: the two passes agree at a frame pixel before each sprite and after it. -/
theorem spritePassIsThePixelLoop : Obligations.SpritePassIsThePixelLoop := fun v s _ x y hx hy =>
  (List.foldl_rel (r := fun h k : Canvas => h x y = k x y) rfl fun n _ _ _ hfg => putSprite_congr hx hy hfg v s n).symm

/-! ### The attribute bits nothing reads -/

section
variable {r : SpriteRecord} {a : Byte} (ha : a &&& 0xC3 = r.attr &&& 0xC3)
include ha

theorem SpriteRecord.flipH_of_attr : SpriteRecord.flipH { r with attr := a } = r.flipH := by
  have hbit := congrArg (·.getLsbD 6) ha
  simpa [SpriteRecord.flipH] using hbit

theorem SpriteRecord.flipV_of_attr : SpriteRecord.flipV { r with attr := a } = r.flipV := by
  have hbit := congrArg (·.getLsbD 7) ha
  simpa [SpriteRecord.flipV] using hbit

theorem SpriteRecord.paletteBase_of_attr : SpriteRecord.paletteBase { r with attr := a } = r.paletteBase := by
  have hbits := congrArg (·.toNat &&& 3) ha
  simp only [BitVec.toNat_and, Nat.and_assoc] at hbits
  rw [SpriteRecord.paletteBase, SpriteRecord.paletteBase]
  exact congrArg (0x10 ||| · <<< 2) hbits

theorem recordPixel_of_attr (v : VideoView) (s : State) (x y : Nat) :
    recordPixel v s { r with attr := a } x y = recordPixel v s r x y := by
  have htile : halfTile v { r with attr := a } = halfTile v r := by
    funext h
    rw [halfTile, SpriteRecord.flipH_of_attr ha, SpriteRecord.flipV_of_attr ha,
      SpriteRecord.paletteBase_of_attr ha]
    rfl
  have hhalves : spriteHalves s { r with attr := a } = spriteHalves s r := by
    rw [spriteHalves, SpriteRecord.flipV_of_attr ha]
    rfl
  rw [recordPixel, htile, hhalves]
  rfl

end

section
variable {s : State} {o : Vector Byte 256}
  (ho : ∀ (i : Nat) (h : i < 256), if i % 4 = 2 then o[i] &&& 0xC3 = s.oam[i] &&& 0xC3 else o[i] = s.oam[i])
include ho

theorem oamByte_setOam_of_ne_attr {i : Nat} (hi : i % 4 ≠ 2) : (s.setOam o).oamByte i = s.oamByte i := by
  unfold State.oamByte
  split
  next hlt => simpa only [State.setOam_oam, if_neg hi] using ho i hlt
  next => rfl

theorem oamByte_setOam_and_of_attr {i : Nat} (hi : i % 4 = 2) :
    (s.setOam o).oamByte i &&& 0xC3 = s.oamByte i &&& 0xC3 := by
  unfold State.oamByte
  split
  next hlt => simpa only [State.setOam_oam, if_pos hi] using ho i hlt
  next => rfl

theorem recordPixel_setOam (v : VideoView) (n x y : Nat) :
    recordPixel v (s.setOam o) (spriteRecord (s.setOam o) n) x y = recordPixel v s (spriteRecord s n) x y := by
  have hrecord : spriteRecord (s.setOam o) n = { spriteRecord s n with attr := (s.setOam o).oamByte (4 * n + 2) } := by
    simp (disch := omega) only [spriteRecord, oamByte_setOam_of_ne_attr ho]
  rw [hrecord]
  exact recordPixel_of_attr (oamByte_setOam_and_of_attr ho (by omega)) v s x y

theorem drawSprites_setOam (v : VideoView) : drawSprites v (s.setOam o) = drawSprites v s := by
  funext f x y
  simp only [drawSprites_apply, recordPixel_setOam ho]

theorem frameCanvas_setOam (v : VideoView) : frameCanvas v (s.setOam o) = frameCanvas v s := by
  rw [frameCanvas, drawSprites_setOam ho]
  rfl

end

/-- Settles O53: the sprite pass is the same, and nothing else of a composition reads OAM. -/
theorem priorityBitHasNoEffect : Obligations.PriorityBitHasNoEffect := fun _ _ ho =>
  congrArg (Canvas.store _ _) (frameCanvas_setOam ho _)

end Sys2Proof.Machine
end

section
/-! The controller polls (spec/45_controller.md): a poll in closed form, the rows of R259, and what a
run of shifting polls reads (R255). -/

namespace Sys2Proof.Machine

/-! ### The masks of the two ports -/

theorem State.setCurrentBit_self (s : State) (p : Port) : s.setCurrentBit p s.currentBit[p] = s := by
  rw [State.setCurrentBit, Fin.getElem_fin, Vector.set_getElem_self]

theorem State.setCurrentBit_getElem_same (s : State) (p : Port) (m : Byte) : (s.setCurrentBit p m).currentBit[p] = m :=
  Vector.getElem_set_self _

theorem State.setCurrentBit_getElem_ne (s : State) {p q : Port} (h : q ≠ p) (m : Byte) :
    (s.setCurrentBit p m).currentBit[q] = s.currentBit[q] :=
  Vector.getElem_set_ne p.isLt q.isLt fun heq => h (Fin.ext heq.symm)

/-! ### One poll -/

/-- While strobed a poll answers 0, and clears its mask under `OnStrobedPoll` alone (R251, R252). -/
theorem exec_joyRead_strobed {p : Port} {s : State} (h : s.controllerLatch = true) :
    exec (joyRead p) s =
      answer (if s.params.strobeReset = .onStrobedPoll then s.setCurrentBit p 0 else s, 0) := by
  rw [exec_joyRead, pollRead_strobed p s h]

/-- Settles O30: by whether `OnStrobedPoll` acts. -/
theorem strobedPollReturnsZero : Obligations.StrobedPollReturnsZero := by
  refine fun s p hlatch => ⟨fun hmode => ?_, fun hmode => ?_⟩
  · rw [exec_joyRead_strobed hlatch, if_neg hmode]
    rfl
  · rw [exec_joyRead_strobed hlatch, if_pos hmode]
    rfl

/-- R253: the mask that a shifting poll leaves. -/
def shiftedMask (mask : Byte) : Byte := reinitMask mask >>> 1

/-- R253, R254: the state that a shifting poll leaves, with the shifted mask and the bit that the restarted one stands on. -/
def State.polled (s : State) (p : Port) : State :=
  (s.setCurrentBit p (shiftedMask s.currentBit[p])).setResult
    (some (pollByte (pollBit s.buttons[p] (reinitMask s.currentBit[p]))))

theorem exec_joyRead_shifting {p : Port} {s : State} (h : s.controllerLatch = false) :
    exec (joyRead p) s = .next (s.polled p) := by
  rw [exec_joyRead, pollRead_shifting p s h]
  rfl

theorem State.polled_getElem (s : State) (p : Port) : (s.polled p).currentBit[p] = shiftedMask s.currentBit[p] :=
  s.setCurrentBit_getElem_same p _

/-- The byte a shifting poll returns where its mask stands on bit `k`. -/
theorem State.polled_result {s : State} {p : Port} {k : Fin 8}
    (hbit : reinitMask s.currentBit[p] = BitVec.twoPow 8 k.val) :
    (s.polled p).result = some (if s.buttons[p].getLsbD k.val then 0x01 else 0x00) := by
  rw [State.polled, State.setResult_result, hbit, pollByte_pollBit_twoPow]

/-- One row of R259, with the mask it starts from given by the bit it stands on and the mask it leaves. -/
theorem exec_joyRead_row {p : Port} {s : State} (hlatch : s.controllerLatch = false) {k : Fin 8} {m : Byte}
    (hbit : reinitMask s.currentBit[p] = BitVec.twoPow 8 k.val) (hleaves : BitVec.twoPow 8 k.val >>> 1 = m) :
    exec (joyRead p) s = .next { s with
      currentBit := s.currentBit.set p.val m p.isLt,
      result := some (if s.buttons[p].getLsbD k.val then 0x01 else 0x00) } := by
  rw [exec_joyRead_shifting hlatch, State.polled, shiftedMask, hbit, hleaves, pollByte_pollBit_twoPow]
  rfl

/-- A mask part-way does not restart. -/
theorem reinitMask_twoPow_succ (k : Fin 7) :
    reinitMask (BitVec.twoPow 8 (k.val + 1)) = BitVec.twoPow 8 (k.val + 1) := by
  revert k; decide

/-- A mask part-way moves to the next bit down. -/
theorem twoPow_succ_shift (k : Fin 7) : BitVec.twoPow 8 (k.val + 1) >>> 1 = BitVec.twoPow 8 k.val := by
  revert k; decide

/-- Settles O31: mask 0 restarts at bit 7, and each other mask stands on its own bit. -/
theorem shiftingPollTransitions : Obligations.ShiftingPollTransitions := by
  refine fun s p hlatch => ⟨fun hmask => ?_, fun k hmask => ?_, fun hmask => ?_⟩
  · exact exec_joyRead_row (k := 7) hlatch (by rw [hmask]; decide) (by decide)
  · exact exec_joyRead_row (k := k.succ) hlatch (by rw [hmask]; exact reinitMask_twoPow_succ k) (twoPow_succ_shift k)
  · exact exec_joyRead_row (k := 0) hlatch (by rw [hmask]; decide) (by decide)

/-! ### What a poll depends on -/

/-- The mask of its port that a poll leaves (R252, R253). -/
def maskAfterPoll (latch : Bool) (mode : StrobeReset) (mask : Byte) : Byte :=
  if latch then if mode = .onStrobedPoll then 0 else mask else shiftedMask mask

/-- The byte that a poll returns (R251, R253, R254). -/
def byteOfPoll (latch : Bool) (buttons mask : Byte) : Byte :=
  if latch then 0 else pollByte (pollBit buttons (reinitMask mask))

/-- Either poll as one update of its port's mask and one answer, of the latch, the setting and its port alone (R257). -/
theorem exec_joyRead_closed (p : Port) (s : State) :
    exec (joyRead p) s = .next ((s.setCurrentBit p
      (maskAfterPoll s.controllerLatch s.params.strobeReset s.currentBit[p])).setResult
        (some (byteOfPoll s.controllerLatch s.buttons[p] s.currentBit[p]))) := by
  cases hlatch : s.controllerLatch with
  | false => exact exec_joyRead_shifting hlatch
  | true =>
    rw [exec_joyRead_strobed hlatch]
    by_cases hmode : s.params.strobeReset = .onStrobedPoll
    · rw [if_pos hmode, hmode]
      rfl
    · rw [if_neg hmode, maskAfterPoll, if_pos rfl, if_neg hmode, State.setCurrentBit_self]
      rfl

/-- Settles O33: what the closed form takes from the state is the same in both. -/
theorem portsAreIndependent : Obligations.PortsAreIndependent := by
  intro s s' t t' p hlatch hmode hbuttons hmask ht ht'
  rw [exec_joyRead_closed] at ht ht'
  obtain rfl := Host.Outcome.next.inj ht
  obtain rfl := Host.Outcome.next.inj ht'
  refine ⟨?_, ?_, fun q hq => s.setCurrentBit_getElem_ne hq _, rfl⟩
  · simp only [State.setResult_result, hlatch, hbuttons, hmask]
  · simp only [State.setResult_currentBit, State.setCurrentBit_getElem_same, hlatch, hmode, hmask]

/-! ### Live buttons -/

/-- The answer of a poll is 0 exactly where the mask finds no button (R253, R254). -/
theorem pollByte_pollBit (buttons mask : Byte) :
    pollByte (pollBit buttons mask) = if buttons &&& mask = 0 then 0x00 else 0x01 := by
  rw [pollByte, pollBit]
  simp only [bne_iff_ne, ite_not]

/-- Settles O35: the sample replaces the buttons that the poll reads and leaves its mask. -/
theorem buttonsAreReadLive : Obligations.ButtonsAreReadLive := by
  intro s t u p v hlatch ht hu
  obtain rfl : (s.setButtons p v).setResult none = t := Host.Outcome.next.inj ht
  have hbuttons : ((s.setButtons p v).setResult none).buttons[p] = v := Vector.getElem_set_self _
  rw [exec_joyRead_shifting (s := (s.setButtons p v).setResult none) hlatch, State.polled, hbuttons, pollByte_pollBit] at hu
  obtain rfl := Host.Outcome.next.inj hu
  rfl

/-! ### A run of polls -/

/-- A step on the word of an operation runs it: `runWord_encode` at the head of `pending`. -/
theorem step_encode {i : Instr} (hwf : i.wellFormed = true) {s : State} {rest : List OpWord}
    (hpending : s.pending = encode i :: rest) : step s = exec i (s.setPending rest) := by
  simp only [step, hpending, runWord_encode hwf]

theorem joyRead_wellFormed (p : Port) : (joyRead p).wellFormed = true := by
  revert p; decide

/-- A step on the word of a shifting poll. -/
theorem step_joyRead {p : Port} {s : State} (hlatch : s.controllerLatch = false) {rest : List OpWord}
    (hpending : s.pending = encode (joyRead p) :: rest) :
    step s = .next ((s.setPending rest).polled p) :=
  (step_encode (joyRead_wellFormed p) hpending).trans (exec_joyRead_shifting hlatch)

/-- What `k` shifting polls of one port, with `n` more issued, have made of the state they started from. -/
structure AfterPolls (p : Port) (k n : Nat) (s t : State) : Prop where
  reaches : Reaches k s t
  latch : t.controllerLatch = false
  buttons : t.buttons[p] = s.buttons[p]
  mask : t.currentBit[p] = shiftedMask^[k] s.currentBit[p]
  pending : t.pending = List.replicate n (encode (joyRead p))

/-- Each poll shifts the mask once and keeps the rest of what the next one reads. -/
theorem exists_afterPolls (p : Port) (n : Nat) : ∀ (k : Nat) (s : State), s.controllerLatch = false →
    s.pending = List.replicate (k + n) (encode (joyRead p)) → ∃ t, AfterPolls p k n s t
  | 0, s, hlatch, hpending => ⟨s, .zero s, hlatch, rfl, rfl, by rw [hpending, Nat.zero_add]⟩
  | k + 1, s, hlatch, hpending => by
    rw [Nat.add_right_comm, List.replicate_succ] at hpending
    obtain ⟨t, after⟩ := exists_afterPolls p n k ((s.setPending (List.replicate (k + n) _)).polled p) hlatch rfl
    refine ⟨t, .more (step_joyRead hlatch hpending) after.reaches, after.latch, after.buttons, ?_, after.pending⟩
    rw [after.mask, State.polled_getElem, State.setPending_currentBit, Function.iterate_succ_apply]

/-- R255: from 0x00 or 0x80 the mask of each of nine polls stands on the bit that is read, bit 7 first and again last. -/
theorem reinitMask_iterate_shiftedMask {m : Byte} (hm : m = 0x00 ∨ m = 0x80) {k : Nat} (hk : k < 9) :
    reinitMask (shiftedMask^[k] m) = BitVec.twoPow 8 ((15 - k) % 8) := by
  rcases hm with rfl | rfl
  · revert k; decide
  · revert k; decide

theorem iterate_shiftedMask_eight {m : Byte} (hm : m = 0x00 ∨ m = 0x80) : shiftedMask^[8] m = 0 := by
  rcases hm with rfl | rfl
  · decide
  · decide

/-- Settles O32: after `k` polls the mask has shifted `k` times, and the poll that follows reads the bit it stands on. -/
theorem eightPollsReadTheButtons : Obligations.EightPollsReadTheButtons := by
  intro s p hlatch hmask hpending
  refine ⟨fun k hk => ?_, ?_⟩
  · obtain ⟨t, after⟩ := exists_afterPolls p (8 - k + 1) k s hlatch (by rw [hpending]; congr 1; omega)
    have hbit : reinitMask t.currentBit[p] = BitVec.twoPow 8 ((15 - k) % 8) := by
      rw [after.mask, reinitMask_iterate_shiftedMask hmask hk]
    refine ⟨t, _, after.reaches, step_joyRead after.latch after.pending, ?_⟩
    rw [State.polled_result (s := t.setPending (.replicate (8 - k) _))
      (k := ⟨(15 - k) % 8, Nat.mod_lt _ (by decide)⟩) hbit, State.setPending_buttons, after.buttons]
  · obtain ⟨t, after⟩ := exists_afterPolls p 1 8 s hlatch hpending
    exact ⟨t, after.reaches, after.mask.trans (iterate_shiftedMask_eight hmask)⟩

end Sys2Proof.Machine
end

section
/-! The host operations (spec/46_host_operations.md): what SAMPLE_INPUT, INIT and COMPOSE_FRAME change (R270 to R272), and the
colours a composition leaves (R274). -/

namespace Sys2Proof.Machine

/-! ### SAMPLE_INPUT -/

theorem exec_sampleInput (p : Port) (v : Byte) (s : State) :
    exec (.sampleInput p v) s = .next ((s.setButtons p v).setResult none) := rfl

theorem State.setButtons_getElem_same (s : State) (p : Port) (v : Byte) : (s.setButtons p v).buttons[p] = v :=
  Vector.getElem_set_self _

theorem State.setButtons_getElem_ne (s : State) {p q : Port} (h : q ≠ p) (v : Byte) :
    (s.setButtons p v).buttons[q] = s.buttons[q] :=
  Vector.getElem_set_ne p.isLt q.isLt fun heq => h (Fin.ext heq.symm)

/-- Settles O34: the next state differs in the sampled port's byte alone. -/
theorem sampleInputSetsTheButtons : Obligations.SampleInputSetsTheButtons := fun s p v =>
  ⟨_, exec_sampleInput p v s, s.setButtons_getElem_same p v, fun _ hq => s.setButtons_getElem_ne hq v, rfl⟩

/-! ### INIT -/

theorem initState_oamByte (s : State) {i : Nat} (hi : i < 256) : (initState s).oamByte i = 0 := by
  rw [State.oamByte_of_lt _ hi, getElem_congr_coll (initState_oam s), getElem_tabulate]

theorem initState_buttons_getElem (s : State) (p : Port) : (initState s).buttons[p] = 0 :=
  getElem_tabulate 2 (fun _ => 0) p p.isLt

theorem initState_currentBit_getElem (s : State) (p : Port) : (initState s).currentBit[p] = 0 :=
  getElem_tabulate 2 (fun _ => 0) p p.isLt

/-- Settles O37: OAM and the controller byte by byte, each other field as INIT sets or keeps it. -/
theorem initRestoresTheLaunchState : Obligations.InitRestoresTheLaunchState := by
  refine fun s => ⟨_, exec_init s, ?_⟩
  have hoam : ∀ i, i < 256 → ((initState s).setResult none).oamByte i = 0 := fun _ hi => initState_oamByte s hi
  have hcontroller : ∀ p : Port, ((initState s).setResult none).buttons[p] = 0 ∧
      ((initState s).setResult none).currentBit[p] = 0 := fun p =>
    ⟨initState_buttons_getElem s p, initState_currentBit_getElem s p⟩
  exact ⟨rfl, rfl, rfl, rfl, rfl, rfl, rfl, rfl, hoam, hcontroller, rfl, rfl, rfl, rfl, rfl, rfl, rfl, rfl, rfl, rfl⟩

/-! ### COMPOSE_FRAME -/

/-- Settles O38: whatever the two surfaces are, only they and the count of draws have been set. -/
theorem composeFrameWritesOnlySurfaces : Obligations.ComposeFrameWritesOnlySurfaces := by
  refine fun s => ⟨_, exec_composeFrame s, ?_⟩
  rw [composeFrame_rest]
  generalize (composeFrame s).composite = composite, (composeFrame s).frame = frame
  rfl

/-! ### The colours a composition leaves -/

/-- R186: a decoded pixel is transparent or a resolved colour. -/
theorem decodedPixel_cases (v : VideoView) (p base : Nat) :
    decodedPixel v p base = .transparent ∨ ∃ k, decodedPixel v p base = .solid (resolve v k) := by
  unfold decodedPixel
  split
  · exact .inl rfl
  · exact .inr ⟨_, rfl⟩

/-- R206: a tile of a nametable over the cleared surface shows a resolved colour. -/
theorem compositeCanvas_resolved (v : VideoView) (bank : Nat) {x y : Nat} (hx : x < 512) (hy : y < 480) :
    ∃ k, compositeCanvas v bank x y = resolve v k := by
  rw [compositeCanvas_apply v bank hx hy, nametableTile, decodeTile]
  rcases decodedPixel_cases v _ _ with htransparent | ⟨k, hsolid⟩
  · exact ⟨0, by rw [htransparent, Pixel.over_transparent, universal]⟩
  · exact ⟨k, by rw [hsolid, Pixel.over_solid]⟩

/-- R234, R242: what a record shows is transparent or a resolved colour. -/
theorem recordPixel_transparent_or_resolved (v : VideoView) (s : State) (r : SpriteRecord) (x y : Nat) :
    recordPixel v s r x y = .transparent ∨ ∃ k, recordPixel v s r x y = .solid (resolve v k) := by
  rcases recordPixel_cases s r x y with hclear | ⟨_, _, _, _, _, hhalf⟩
  · exact .inl (hclear v)
  · rw [hhalf, halfTile, decodeTile]
    exact decodedPixel_cases v _ _

/-- R238: the sprite pass leaves a pixel as it was or gives it a resolved colour. -/
theorem drawSprites_cases (v : VideoView) (s : State) (f : Canvas) (x y : Nat) :
    drawSprites v s f x y = f x y ∨ ∃ k, drawSprites v s f x y = resolve v k := by
  rw [drawSprites_apply]
  refine List.foldlRecOn (motive := fun c => c = f x y ∨ ∃ k, c = resolve v k) _ _ (.inl rfl) fun c hc n _ => ?_
  rcases recordPixel_transparent_or_resolved v s (spriteRecord s n) x y with htransparent | ⟨k, hsolid⟩
  · rwa [htransparent, Pixel.over_transparent]
  · exact .inr ⟨k, by rw [hsolid, Pixel.over_solid]⟩

/-- R211 to R213: a blit copies a resolved colour. -/
theorem backgroundFrame_resolved (s : State) (under : Canvas) {x y : Nat} (hx : x < 256) (hy : y < 240)
    (hblit : x + scrollXEff s < 512 ∨ y + scrollYEff s < 480) :
    ∃ k, backgroundFrame under (compositeCanvas s.video (bgBank s)) (scrollXEff s) (scrollYEff s) x y =
      resolve s.video k := by
  have hscrollX := scrollXEff_lt s
  have hscrollY := scrollYEff_lt s
  rw [backgroundFrame_apply _ _ hx hy]
  split_ifs
  · exact compositeCanvas_resolved _ _ (by omega) (by omega)
  · exact compositeCanvas_resolved _ _ (by omega) (by omega)
  · exact compositeCanvas_resolved _ _ (by omega) (by omega)
  · omega

/-- Every frame pixel a blit writes has a resolved colour. -/
theorem frameCanvas_resolved (s : State) {x y : Nat} (hx : x < 256) (hy : y < 240)
    (hblit : x + scrollXEff s < 512 ∨ y + scrollYEff s < 480) : ∃ k, frameCanvas s.video s x y = resolve s.video k := by
  rcases drawSprites_cases s.video s _ x y with hunder | hsprite
  · rw [frameCanvas, hunder]
    exact backgroundFrame_resolved s _ hx hy hblit
  · exact hsprite

/-- R215: in the corner no blit writes, a sprite shows or what the blits drew over. -/
theorem frameCanvas_corner (s : State) {x y : Nat} (hx : x < 256) (hy : y < 240)
    (hsx : 512 ≤ x + scrollXEff s) (hsy : 480 ≤ y + scrollYEff s) :
    (∃ k, frameCanvas s.video s x y = resolve s.video k) ∨
      frameCanvas s.video s x y = unstitchedFrame (surfaceCanvas s.frame) s.draws x y := by
  rcases drawSprites_cases s.video s _ x y with hunder | hsprite
  · rw [frameCanvas, hunder, backgroundFrame_apply _ _ hx hy, if_neg hsx.not_gt, if_neg hsy.not_gt]
    exact .inr rfl
  · exact .inl hsprite

/-- R171, R172: a resolved colour is an opaque master colour. -/
theorem exists_master_of_resolved {s : State} {pixel : Option Colour} {c : Colour} (hpixel : pixel = some c)
    (hc : ∃ k, c = resolve s.video k) :
    ∃ j : Fin 64, pixel = some (master s.params j) ∧ (master s.params j).a = 0xFF := by
  obtain ⟨k, rfl⟩ := hc
  exact ⟨_, hpixel, master_alpha _ _⟩

/-- Settles O48: the composite surface, the frame where a blit writes it, and the corner. -/
theorem composedPixelsAreOpaque : Obligations.ComposedPixelsAreOpaque := by
  intro s t hexec
  obtain rfl := eq_of_exec_composeFrame hexec
  rw [State.setResult_composite, State.setResult_frame]
  refine ⟨fun x y hx hy => ?_, fun x y hx hy hblit => ?_, fun x y hx hy hsx hsy => ?_⟩
  · exact exists_master_of_resolved (pixelAt_composite s hx hy) (compositeCanvas_resolved _ _ hx hy)
  · exact exists_master_of_resolved (pixelAt_frame s hx hy) (frameCanvas_resolved s hx hy hblit)
  · rcases frameCanvas_corner s hx hy hsx hsy with hsprite | hunder
    · exact .inl (exists_master_of_resolved (pixelAt_frame s hx hy) hsprite)
    · rw [pixelAt_frame s hx hy, hunder, pixelAt_of_lt s.frame hx hy, Nat.mul_comm 256 y]
      exact .inr ((unstitchedPixel_cases _ _).imp (congrArg some) (congrArg some))

end Sys2Proof.Machine
end

section
/-! Exceptions (spec/60_exceptions.md): every operation and every step completes (R300), and no rule reads a mark (R313). -/

namespace Sys2Proof.Machine

/-! ### Completion -/

/-- Settles O9: an operation has one of its effects, and a step is idle, an operation, or a refused word. -/
theorem everyOperationCompletes : Obligations.EveryOperationCompletes := by
  have hexec (i : Instr) (s : State) : ∃ t, exec i s = .next t :=
    let ⟨_, _, h, _⟩ := exec_effect i s
    ⟨_, h⟩
  refine ⟨hexec, fun s => ?_⟩
  cases hpending : s.pending with
  | nil => exact ⟨s, stepRunsTheDecodedOperation.2 s hpending⟩
  | cons w rest =>
    cases hdecode : decode w with
    | ok i =>
      rw [stepRunsTheDecodedOperation.1 s w rest i hpending hdecode]
      exact hexec i _
    | error e => exact ⟨_, step_of_decode_error hpending hdecode⟩

/-! ### Two runs from states that differ only in their marks -/

/-- A state with its marks at given values. -/
def State.withMarks (s : State) (refused faulted : Bool) : State := { s with refused := refused, faulted := faulted }

@[simp] theorem State.withMarks_params (s : State) (r f : Bool) : (s.withMarks r f).params = s.params := rfl

/-- The second state is the first but for the marks. -/
def SameButMarks (s s' : State) : Prop := ∃ refused faulted, s' = s.withMarks refused faulted

/-- Two reads that return one byte and states that differ only in their marks. -/
def SameRead (x y : State × Byte) : Prop := SameButMarks x.1 y.1 ∧ x.2 = y.2

/-- Two outcomes that are next states which differ only in their marks. -/
def SameNext (x y : Host.Outcome State Fault Refusal) : Prop :=
  ∃ t t', x = .next t ∧ y = .next t' ∧ SameButMarks t t'

theorem SameRead.answer {x y : State × Byte} (h : SameRead x y) : SameNext (answer x) (answer y) := by
  obtain ⟨⟨r, f, hstate⟩, hbyte⟩ := h
  refine ⟨_, _, rfl, rfl, r, f, ?_⟩
  rw [hstate, hbyte]
  rfl

namespace SameButMarks

variable {s s' : State} (h : SameButMarks s s')
include h

theorem complete : SameNext (complete s) (complete s') := by
  obtain ⟨r, f, rfl⟩ := h
  exact ⟨_, _, rfl, rfl, r, f, rfl⟩

/-- An update that neither reads nor writes the marks. -/
theorem update {g : State → State} (hg : ∀ r f, g (s.withMarks r f) = (g s).withMarks r f) : SameButMarks (g s) (g s') := by
  obtain ⟨r, f, rfl⟩ := h
  exact ⟨r, f, hg r f⟩

/-- A read that neither reads nor writes the marks. -/
theorem read {g : State → State × Byte} (hg : ∀ r f, g (s.withMarks r f) = ((g s).1.withMarks r f, (g s).2)) :
    SameRead (g s) (g s') := by
  obtain ⟨r, f, rfl⟩ := h
  rw [hg]
  exact ⟨⟨r, f, rfl⟩, rfl⟩

/-- The mark of R61 is set whatever it was. -/
theorem markFaulted : SameButMarks s.markFaulted s'.markFaulted := by
  obtain ⟨r, f, rfl⟩ := h
  exact ⟨r, true, rfl⟩

/-- The mark of R99 is set whatever it was. -/
theorem markRefused : SameButMarks s.markRefused s'.markRefused := by
  obtain ⟨r, f, rfl⟩ := h
  exact ⟨true, f, rfl⟩

/-! ### The reads -/

theorem drawByte : SameRead s.drawByte s'.drawByte := h.read fun _ _ => rfl

theorem ramRead (a : Addr) : SameRead (ramRead a s) (ramRead a s') := h.read fun _ _ => rfl

theorem unimplementedRead (a : Addr) : SameRead (unimplementedRead a s) (unimplementedRead a s') := h.read fun _ _ => rfl

theorem statusRead : SameRead (statusRead s) (statusRead s') :=
  h.read fun r f => by
    simp only [Machine.statusRead, State.withMarks_params]
    split <;> rfl

theorem dmaPortRead : SameRead (dmaPortRead s) (dmaPortRead s') :=
  h.read fun r f => by
    simp only [Machine.dmaPortRead, State.withMarks_params]
    split <;> rfl

/-- An access of VideoMemory goes by the parameters and `vramAddr` (R61). -/
theorem vramIndex_eq : vramIndex s'.params.vramIndex s'.vramAddr = vramIndex s.params.vramIndex s.vramAddr := by
  obtain ⟨r, f, rfl⟩ := h
  rfl

/-- The one read that can set the mark of R61. -/
theorem vramDataRead : SameRead (vramDataRead s) (vramDataRead s') := by
  unfold Machine.vramDataRead
  rw [h.vramIndex_eq]
  split
  next k _ => exact h.read (g := fun u => (u, u.vramByte k)) fun _ _ => rfl
  next => exact h.markFaulted.drawByte

theorem pollRead (p : Port) : SameRead (pollRead p s) (pollRead p s') :=
  h.read fun r f => by
    cases hlatch : s.controllerLatch with
    | true =>
      rw [pollRead_strobed p s hlatch, pollRead_strobed p (s.withMarks r f) hlatch, State.withMarks_params]
      split <;> rfl
    | false =>
      rw [pollRead_shifting p s hlatch, pollRead_shifting p (s.withMarks r f) hlatch]
      rfl

theorem busRead (a : Addr) : SameRead (busRead a s) (busRead a s') := by
  unfold Machine.busRead
  split_ifs
  · exact h.ramRead a
  · exact h.statusRead
  · exact h.vramDataRead
  · exact h.unimplementedRead a
  · exact h.dmaPortRead
  · exact h.unimplementedRead a
  · exact h.pollRead 0
  · exact h.pollRead 1
  · exact h.ramRead a

/-! ### The writes and the host operations -/

theorem vramDataWrite (v : Byte) : SameButMarks (vramDataWrite v s) (vramDataWrite v s') := by
  unfold Machine.vramDataWrite
  rw [h.vramIndex_eq]
  split
  next k _ => exact h.update (g := fun u => u.writeVramByte k v) fun _ _ => rfl
  next => exact h.markFaulted

theorem writeOamByte (i : Nat) (v : Byte) : SameButMarks (s.writeOamByte i v) (s'.writeOamByte i v) :=
  h.update (g := (·.writeOamByte i v)) fun r f => by
    simp only [State.writeOamByte]
    split <;> rfl

theorem strobeWrite (v : Byte) : SameButMarks (strobeWrite v s) (strobeWrite v s') :=
  h.update fun r f => by
    rw [Machine.strobeWrite, Machine.strobeWrite, State.withMarks_params]
    split <;> rfl

theorem oamDataWrite (v : Byte) : SameButMarks (oamDataWrite v s) (oamDataWrite v s') :=
  h.update fun r f => by
    rw [oamDataWrite_eq, oamDataWrite_eq]
    rfl

theorem composeFrame : SameButMarks (composeFrame s) (composeFrame s') := h.update fun _ _ => rfl

theorem dmaStep (mode : DmaSource) (page : Byte) (i : Nat) : SameButMarks (dmaStep mode page s i) (dmaStep mode page s' i) := by
  have hread : SameRead (dmaSource mode (dmaAddr page i) s) (dmaSource mode (dmaAddr page i) s') := by
    cases mode with
    | raw => exact h.read (g := fun u => (u, u.cpuByte _)) fun _ _ => rfl
    | mapped => exact h.busRead _
  unfold Machine.dmaStep
  rw [← hread.2]
  exact hread.1.writeOamByte i _

theorem dmaSteps (mode : DmaSource) (page : Byte) (l : List Nat) :
    SameButMarks (l.foldl (Machine.dmaStep mode page) s) (l.foldl (Machine.dmaStep mode page) s') := by
  induction l generalizing s s' with
  | nil => exact h
  | cons i l ih => exact ih (h.dmaStep mode page i)

theorem oamDma (page : Byte) : SameButMarks (oamDma page s) (oamDma page s') := by
  have hmode : s'.params.dmaSource = s.params.dmaSource := by
    obtain ⟨r, f, rfl⟩ := h
    rfl
  unfold Machine.oamDma
  rw [hmode]
  exact h.dmaSteps _ page _

/-! ### The operations and the step -/

/-- Every operation, by the rule it runs. -/
theorem exec (i : Instr) : SameNext (exec i s) (exec i s') :=
  match i with
  | .readRamLow a | .readRamHigh a => (h.ramRead a).answer
  | .readControl a | .readMask a | .readOamAddr a | .readOamData a | .readScroll a | .readVramAddr a
  | .readApu4000 a | .readApu4010 a => (h.unimplementedRead a).answer
  | .readApu4015 => (h.unimplementedRead 0x4015).answer
  | .readStatus _ => h.statusRead.answer
  | .readVramData _ => h.vramDataRead.answer
  | .read4014 => h.dmaPortRead.answer
  | .readJoy1 => (h.pollRead 0).answer
  | .readJoy2 => (h.pollRead 1).answer
  | .writeRamLow a v | .writeRamHigh a v => (h.update (g := ramWrite a v) fun _ _ => rfl).complete
  | .writeControl _ v => (h.update (g := (·.setControl v)) fun _ _ => rfl).complete
  | .writeMask _ v => (h.update (g := (·.setMask v)) fun _ _ => rfl).complete
  | .writeStatus a _ | .writeScroll a _ | .writeApu4000 a _ | .writeApu4010 a _ =>
    (h.update (g := unimplementedWrite a) fun _ _ => rfl).complete
  | .writeApu4015 _ => (h.update (g := unimplementedWrite 0x4015) fun _ _ => rfl).complete
  | .writeApu4017 _ => (h.update (g := unimplementedWrite 0x4017) fun _ _ => rfl).complete
  | .writeOamAddr _ v => (h.update (g := (·.setOamAddr v)) fun _ _ => rfl).complete
  | .writeOamData _ v => (h.oamDataWrite v).complete
  | .writeVramAddr _ v => (h.update (g := vramAddrWrite v) fun _ _ => rfl).complete
  | .writeVramData _ v => (h.vramDataWrite v).complete
  | .writeOamDma page => (h.oamDma page).complete
  | .writeJoyStrobe v => (h.strobeWrite v).complete
  | .init => (h.update (g := initState) fun _ _ => rfl).complete
  | .composeFrame => h.composeFrame.complete
  | .sampleInput p v => (h.update (g := (·.setButtons p v)) fun _ _ => rfl).complete

theorem runWord (w : OpWord) : SameNext (runWord w s) (runWord w s') := by
  unfold Machine.runWord
  split
  next i _ => exact h.exec i
  next => exact h.markRefused.complete

theorem step : SameNext (step s) (step s') := by
  have hpending : s'.pending = s.pending := by
    obtain ⟨r, f, rfl⟩ := h
    rfl
  unfold Machine.step
  rw [hpending]
  split
  next => exact ⟨s, s', rfl, rfl, h⟩
  next w rest _ => exact (h.update (g := (·.setPending rest)) fun _ _ => rfl).runWord w

end SameButMarks

/-- Settles O59: the two steps answer next states that differ only in their marks, and with both marks false they are equal. -/
theorem marksChangeNoBehaviour : Obligations.MarksChangeNoBehaviour := by
  intro s t r f hstep
  have hsame : SameButMarks s (s.withMarks r f) := ⟨r, f, rfl⟩
  obtain ⟨u, t', hu, hstep', _, _, rfl⟩ := hsame.step
  cases hstep.symm.trans hu
  exact ⟨_, hstep', rfl⟩

end Sys2Proof.Machine
end

section
/-! Reset and the hazards of the data ports (spec/70_reset_and_hazards.md): the launch state (R320), the VRAM data port, which does
not move `vramAddr` (R330), and the OAM data port, which goes once around OAM in 256 writes (R338). -/

namespace Sys2Proof.Machine

/-! ### The VRAM data port -/

/-- The state after a write of the port inside VideoMemory (R136), with what is then issued. -/
def State.vramWritten (s : State) (v : Byte) (rest : List OpWord) : State :=
  { s with vram := s.vram.write (s.vramAddr.toNat % 0x4000) v, result := none, pending := rest }

/-- The state after a read of the port inside VideoMemory (R153), with what is then issued. -/
def State.vramAnswered (s : State) (rest : List OpWord) : State :=
  { s with result := some (s.vram.read (s.vramAddr.toNat % 0x4000)), pending := rest }

section
variable {s : State} {a : Addr} {rest : List OpWord} (ha : mapped a = 0x2007)
  (hinside : s.params.vramIndex = .mod16K ∨ s.vramAddr.toNat < 0x4000)
include ha hinside

theorem step_vramDataWrite {v : Byte} (hpending : s.pending = busWriteWord a v :: rest) :
    step s = .next (s.vramWritten v rest) :=
  (step_encode (i := .writeVramData a v) (inSlot_of_mapped (by decide) ha) hpending).trans
    (congrArg complete (vramDataWrite_of_inside (s := s.setPending rest) hinside v))

theorem step_vramDataRead (hpending : s.pending = busReadWord a :: rest) : step s = .next (s.vramAnswered rest) :=
  (step_encode (i := .readVramData a) (inSlot_of_mapped (by decide) ha) hpending).trans
    (congrArg answer (vramDataRead_of_inside (s := s.setPending rest) hinside))

end

/-- Settles O25: all four accesses are at the one index, so that the second write decides its byte. -/
theorem vramAddressNeverIncrements : Obligations.VramAddressNeverIncrements := by
  intro s a v w rest ha hinside hpending
  have hbyte (k : Nat) : ((s.vram.write (s.vramAddr.toNat % 0x4000) v).write (s.vramAddr.toNat % 0x4000) w).read k =
      if k = s.vramAddr.toNat % 0x4000 then w else (s.vram.write (s.vramAddr.toNat % 0x4000) v).read k :=
    Memory.read_write _ _ _ _
  have hlast := congrArg some ((hbyte _).trans (if_pos rfl))
  refine ⟨_, _, .more (step_vramDataWrite ha hinside hpending) (.more (step_vramDataWrite ha ?_ rfl)
    (.more (step_vramDataRead ha ?_ rfl) (.zero _))), step_vramDataRead ha ?_ rfl, hlast, hlast, rfl, fun k hk => ?_⟩
  iterate 3 exact hinside
  exact (hbyte k).trans (by rw [if_neg hk, Memory.read_write, if_neg hk])

/-! ### The OAM data port -/

/-- The state after a write of the port (R134), with what is then issued. -/
def State.oamWritten (s : State) (v : Byte) (rest : List OpWord) : State :=
  (oamDataWrite v (s.setPending rest)).setResult none

theorem State.oamWritten_oamByte (s : State) (v : Byte) (rest : List OpWord) (i : Nat) :
    (s.oamWritten v rest).oamByte i = if i = s.oamAddr.toNat then v else s.oamByte i :=
  (s.setPending rest).writeOamByte_oamByte s.oamAddr.toNat v i s.oamAddr.isLt

theorem State.oamWritten_oamAddr (s : State) (v : Byte) (rest : List OpWord) :
    (s.oamWritten v rest).oamAddr = s.oamAddr + 1 := rfl

theorem State.oamWritten_pending (s : State) (v : Byte) (rest : List OpWord) : (s.oamWritten v rest).pending = rest := by
  rw [State.oamWritten, oamDataWrite_eq]
  rfl

theorem step_oamDataWrite {s : State} {a : Addr} {v : Byte} {rest : List OpWord} (ha : mapped a = 0x2004)
    (hpending : s.pending = busWriteWord a v :: rest) : step s = .next (s.oamWritten v rest) :=
  step_encode (i := .writeOamData a v) (inSlot_of_mapped (by decide) ha) hpending

/-- The index of the i-th OAM byte from a start, going around (R134). -/
def oamIndex (start : Byte) (i : Nat) : Nat := (start.toNat + i) % 256

theorem oamIndex_zero (start : Byte) : oamIndex start 0 = start.toNat := Nat.mod_eq_of_lt start.isLt

theorem oamIndex_succ (start : Byte) (i : Nat) : oamIndex start (i + 1) = oamIndex (start + 1) i := by
  have hsucc : (start + 1).toNat = (start.toNat + 1) % 256 := BitVec.toNat_add _ _
  unfold oamIndex
  omega

/-- Once around is back at the start. -/
theorem oamIndex_succ_255 (start : Byte) : oamIndex (start + 1) 255 = start.toNat := by
  rw [← oamIndex_succ, oamIndex, Nat.add_mod_right, Nat.mod_eq_of_lt start.isLt]

/-- And no sooner. -/
theorem oamIndex_succ_ne (start : Byte) {i : Nat} (hi : i + 1 < 256) : oamIndex start (i + 1) ≠ start.toNat := by
  have hstart := start.isLt
  unfold oamIndex
  omega

/-- What writing bytes through the port from s has made of it: they lie in OAM in order from `oamAddr` on, and the bytes
further on are those of s. -/
structure AfterOamWrites (ds : List Byte) (s t : State) : Prop where
  reaches : Reaches ds.length s t
  oamAddr : t.oamAddr = s.oamAddr + BitVec.ofNat 8 ds.length
  oamByte : ∀ i, i < 256 → t.oamByte (oamIndex s.oamAddr i) = ds[i]?.getD (s.oamByte (oamIndex s.oamAddr i))

/-- At most 256 writes go around OAM no more than once, so that each byte stays where it was written. -/
theorem exists_afterOamWrites {a : Addr} (ha : mapped a = 0x2004) : ∀ (ds : List Byte) (s : State), ds.length ≤ 256 →
    s.pending = ds.map (busWriteWord a) → ∃ t, AfterOamWrites ds s t
  | [], s, _, _ => ⟨s, .zero s, by simp, fun i _ => by simp⟩
  | d :: ds, s, hlength, hpending => by
    rw [List.length_cons] at hlength
    obtain ⟨t, after⟩ := exists_afterOamWrites ha ds (s.oamWritten d (ds.map (busWriteWord a))) (by omega)
      (s.oamWritten_pending d _)
    refine ⟨t, .more (step_oamDataWrite ha hpending) after.reaches, ?_, fun i hi => ?_⟩
    · rw [after.oamAddr, State.oamWritten_oamAddr, List.length_cons, Nat.add_comm, BitVec.ofNat_add, BitVec.add_assoc]
      rfl
    · cases i with
      | zero =>
        have hlast := after.oamByte 255 (by decide)
        rw [State.oamWritten_oamAddr, oamIndex_succ_255, State.oamWritten_oamByte, if_pos rfl,
          List.getElem?_eq_none (by omega)] at hlast
        rw [oamIndex_zero]
        exact hlast
      | succ i =>
        have hnext := after.oamByte i (by omega)
        rw [State.oamWritten_oamAddr, ← oamIndex_succ, State.oamWritten_oamByte, if_neg (oamIndex_succ_ne _ hi)] at hnext
        exact hnext

/-- Settles O21: after 256 writes `oamAddr` has gone around once, and every byte is at its place. -/
theorem oamPortFillsOam : Obligations.OamPortFillsOam := by
  intro s a ds ha hlength hpending
  obtain ⟨t, after⟩ := exists_afterOamWrites ha ds s hlength.le hpending
  refine ⟨t, hlength ▸ after.reaches, ?_, fun i hi => ?_⟩
  · rw [after.oamAddr, hlength]
    exact BitVec.add_zero _
  · rw [← oamIndex, after.oamByte i (hlength ▸ hi), List.getElem?_eq_getElem hi, Option.getD_some]

/-! ### Reset -/

/-- Every byte of OAM is zero at launch (R41). -/
theorem State.launch_oamByte (params : Params) (cpuMem0 vram0 : Memory) (scrollX0 scrollY0 : Byte) {i : Nat} (hi : i < 256) :
    (State.launch params cpuMem0 vram0 scrollX0 scrollY0).oamByte i = 0 :=
  (State.oamByte_of_lt _ hi).trans (getElem_tabulate 256 (fun _ => 0) i hi)

/-- Both ports start with no button held (R41). -/
theorem State.launch_buttons (params : Params) (cpuMem0 vram0 : Memory) (scrollX0 scrollY0 : Byte) (p : Port) :
    (State.launch params cpuMem0 vram0 scrollX0 scrollY0).buttons[p] = 0 :=
  getElem_tabulate 2 (fun _ => 0) p p.isLt

/-- Settles O36: OAM and the controller byte by byte, each other field as `State.launch` lists it; reset is a launch. -/
theorem resetValues : Obligations.ResetValues := by
  have hcontroller (params : Params) (cpuMem0 vram0 : Memory) (scrollX0 scrollY0 : Byte) (p : Port) :=
    And.intro (State.launch_buttons params cpuMem0 vram0 scrollX0 scrollY0 p)
      (State.launch_currentBit params cpuMem0 vram0 scrollX0 scrollY0 p)
  refine ⟨fun _ _ _ _ _ => ⟨rfl, rfl, rfl, rfl, rfl, rfl, rfl, rfl, rfl, rfl, rfl, rfl, rfl, hcontroller _ _ _ _ _, rfl,
    fun _ hi => State.launch_oamByte _ _ _ _ _ hi, rfl, rfl, rfl⟩, rfl, ?_⟩
  exact ⟨rfl, rfl, rfl, rfl, rfl, rfl, rfl, rfl, hcontroller _ _ _ _ _, rfl,
    fun _ hi => State.launch_oamByte _ _ _ _ _ hi, rfl, rfl, rfl⟩

end Sys2Proof.Machine
end
